-- ==== Sys2Proof/Word.lean ====
section
/-! DEFINITION. The two widths the block moves: bytes (every frame field, every buffer element, the 8-bit registers)
and 16-bit words (CMD, TXWLEN, RXLEN, RXUSZ, the decoder's cursors). Rules R8, R20, R40. -/

namespace Sys2Proof

/-- An 8-bit value, u8 of rule R12. -/
abbrev Byte := BitVec 8

/-- A 16-bit value, u16 of rule R12. -/
abbrev Word := BitVec 16

end Sys2Proof
end

