-- ==== Sys2Proof/Config.lean ====
section
/-! DEFINITION. The fixed parameters of the block (rules R8, R9, R10) and the values the spec leaves open, which stand
here as constants without a body (rules R11, R201, R236, R272). -/

namespace Sys2Proof.Config

/-- DELIM, the frame delimiter (rule R8). -/
def delim : Byte := 0x7E#8

/-- ESC, the escape marker (rule R8). -/
def esc : Byte := 0x7D#8

/-- The raw wake-up byte of PRIME (rule R208). -/
def primeByte : Byte := 0xFF#8

/-- MAXPAY, the largest payload in bytes, and the size of TXPAY (rules R8, R30). -/
def maxPay : Nat := 255

/-- OVH, the logical bytes of a frame body that are not payload (rule R9; 90_conflicts.md C2). -/
def ovh : Nat := 4

/-- MINLEN, the shortest wire frame the decoder accepts (rule R9; 90_conflicts.md C1). -/
def minLen : Nat := 6

/-- TXWCAP, the size of the transmit wire buffer (rules R9, R157). -/
def txwCap : Nat := 522

/-- RXCAP, the size of the receive buffer (rule R10). The spec lets a model take it as an argument; this model keeps the
spec's own 522. -/
def rxCap : Nat := 522

/-- FREE VALUE. The bytes DECODE leaves in RXB after a failure (rule R272: "each byte of RXB[0..RXLEN) holds an
unspecified value"), one fresh byte for each value of the counter State.freeCtr. Log entry 1. -/
opaque freeByte : Nat → Byte

/-- FREE VALUE. The channel's answer to its d-th write when State.answers supplies none: `written d m` for m bytes
offered, cut to 0..m where it is used (rule R201). Log entry 2. -/
opaque written : Nat → Nat → Nat

/-- FREE VALUE. The open parameter status_of of rule R236: address, command, length and payload of the decoded response
to its status byte. Log entry 3. -/
opaque statusOf : Byte → Byte → Byte → List Byte → Byte

end Sys2Proof.Config
end

