-- ==== Sys2Proof/Syntax.lean ====
section
/-! DEFINITION. The operations of the block: one constructor per row of spec/opcode_table.json (rule R115). -/

namespace Sys2Proof

/-- The rows of the opcode table: the ten commands and the reserved row of the command word (rules R110, R111), the
received-byte event (rule R204), and the wire symbols (rules R96 to R101). -/
inductive Instr where
  /-- NOP, rule R250 -/
  | nop
  /-- ENCODE, rule R150 -/
  | encode
  /-- DECODE, rule R170 -/
  | decode
  /-- TXSEND, rule R200 -/
  | txsend
  /-- RXARM, rule R203 -/
  | rxarm
  /-- RXSTOP, rule R206 -/
  | rxstop
  /-- PRIME, rule R208 -/
  | prime
  /-- CSCLR, rule R133 -/
  | csclr
  /-- CSADD imm8, rule R134 -/
  | csadd (imm : Byte)
  /-- RESET, rule R251 -/
  | reset
  /-- a reserved opcode, 0x0A to 0xFF, rule R111 -/
  | reserved (op : Byte)
  /-- RXBYTE(b), the received-byte event of the channel, rule R204 -/
  | rxbyte (b : Byte)
  /-- DELIM, the wire byte 7E, rule R101 -/
  | delim
  /-- ESC_11, the wire pair 7D 31, rule R96 -/
  | esc11
  /-- ESC_13, the wire pair 7D 33, rule R97 -/
  | esc13
  /-- ESC_7D, the wire pair 7D 5D, rule R98 -/
  | esc7d
  /-- ESC_7E, the wire pair 7D 5E, rule R99 -/
  | esc7e
  /-- LIT, a wire byte that stands for itself, rule R100 -/
  | lit (b : Byte)
deriving DecidableEq, Repr

end Sys2Proof
end

