-- ==== Sys2Proof/WellFormed.lean ====
section
/-! DEFINITION. Which terms of Instr stand for an encoding of the spec: a reserved opcode lies in 0x0A..0xFF (rule R111),
a literal wire byte is neither the marker nor the delimiter (rules R104, R105; the LIT row's constraint). -/

namespace Sys2Proof

/-- The check, constructor by constructor. -/
def Instr.wellFormed : Instr → Bool
  | .nop | .encode | .decode | .txsend | .rxarm | .rxstop | .prime | .csclr | .reset => true
  | .csadd _ => true
  | .reserved op => decide (0x0A ≤ op.toNat)
  | .rxbyte _ => true
  | .delim | .esc11 | .esc13 | .esc7d | .esc7e => true
  | .lit b => decide (b ≠ Config.esc ∧ b ≠ Config.delim)

/-- A well-formed instruction. -/
abbrev WellFormed (i : Instr) : Prop := i.wellFormed = true

/-- The wire symbols among the instructions: the rows of formats WIRE8 and WIRE16. -/
def Instr.isWire : Instr → Bool
  | .delim | .esc11 | .esc13 | .esc7d | .esc7e | .lit _ => true
  | .nop | .encode | .decode | .txsend | .rxarm | .rxstop | .prime | .csclr | .csadd _ | .reset | .reserved _
  | .rxbyte _ => false

/-- The host commands among the instructions: the rows of format CMD16. -/
def Instr.isCommand : Instr → Bool
  | .nop | .encode | .decode | .txsend | .rxarm | .rxstop | .prime | .csclr | .csadd _ | .reset | .reserved _ => true
  | .rxbyte _ | .delim | .esc11 | .esc13 | .esc7d | .esc7e | .lit _ => false

end Sys2Proof
end

