-- ==== Sys2Proof/Decode.lean ====
section
/-! DEFINITION. The two encodings of the spec (rule R2): the command word {imm8, opcode} the host writes to CMD (rule
R110) and the wire symbols (rules R92 to R104); the decoder of each, total, and the encoder. -/

namespace Sys2Proof

/-! ## The escape table (rules R95 to R102) -/

/-- `esc(b)`, the wire bytes of one logical byte (rule R95). -/
def esc (b : Byte) : List Byte :=
  if b = 0x11#8 then [Config.esc, 0x31#8]
  else if b = 0x13#8 then [Config.esc, 0x33#8]
  else if b = 0x7D#8 then [Config.esc, 0x5D#8]
  else if b = 0x7E#8 then [Config.esc, 0x5E#8]
  else [b]

/-- `unesc(f)`, the logical byte an escape code stands for; no value on the other 252 bytes (rule R95). -/
def unesc (f : Byte) : Option Byte :=
  if f = 0x31#8 then some 0x11#8
  else if f = 0x33#8 then some 0x13#8
  else if f = 0x5D#8 then some 0x7D#8
  else if f = 0x5E#8 then some 0x7E#8
  else none

/-- The four bytes the encoder must escape (rule R16, "special byte"). -/
def special (b : Byte) : Bool := b == 0x11#8 || b == 0x13#8 || b == 0x7D#8 || b == 0x7E#8

/-! ## How an instruction reaches the block -/

/-- What carries an instruction: a command word written to CMD, wire bytes, or a byte the channel delivers (which has
no bits of its own in the opcode table). -/
inductive Code where
  | cmd (w : Word)
  | wire (bs : List Byte)
  | event (b : Byte)
deriving DecidableEq, Repr

/-- Why wire bytes are no single symbol. -/
inductive DecodeError where
  /-- there is no byte -/
  | emptyWire
  /-- the marker 7D with nothing after it (rule R92) -/
  | markerAlone
  /-- the marker followed by a byte that is no escape code (rule R104) -/
  | badFollower (f : Byte)
  /-- bytes are left over after the symbol -/
  | trailingBytes
deriving DecidableEq, Repr

/-! ## The command word (rules R110 to R112) -/

/-- Bits [7:0] of the command word. -/
def opcodeOf (w : Word) : Byte := w.extractLsb' 0 8

/-- Bits [15:8] of the command word. -/
def immOf (w : Word) : Byte := w.extractLsb' 8 8

/-- The word `{imm8, opcode}`. -/
def cmdWord (imm op : Byte) : Word := imm ++ op

/-- The command a word selects (rule R110). Every word selects one; 0x0A to 0xFF are reserved (rule R111), and imm8 is
read by CSADD alone (rule R112). -/
def decodeCmd (w : Word) : Instr :=
  match (opcodeOf w).toNat with
  | 0x00 => .nop
  | 0x01 => .encode
  | 0x02 => .decode
  | 0x03 => .txsend
  | 0x04 => .rxarm
  | 0x05 => .rxstop
  | 0x06 => .prime
  | 0x07 => .csclr
  | 0x08 => .csadd (immOf w)
  | 0x09 => .reset
  | _ => .reserved (opcodeOf w)

/-! ## The wire (rules R103, R104) -/

/-- The first wire symbol of a byte sequence and the bytes after it. The first byte alone tells the length (rule R103);
the byte after a marker is judged as a follower only (rule R105). -/
def decodeWire : List Byte → Except DecodeError (Instr × List Byte)
  | [] => .error .emptyWire
  | b :: rest =>
    if b = Config.delim then .ok (.delim, rest)
    else if b = Config.esc then
      match rest with
      | [] => .error .markerAlone
      | f :: rest' =>
        if f = 0x31#8 then .ok (.esc11, rest')
        else if f = 0x33#8 then .ok (.esc13, rest')
        else if f = 0x5D#8 then .ok (.esc7d, rest')
        else if f = 0x5E#8 then .ok (.esc7e, rest')
        else .error (.badFollower f)
    else .ok (.lit b, rest)

/-- The decoder, total: what carries an instruction to the instruction, or the reason it is none. -/
def decode : Code → Except DecodeError Instr
  | .cmd w => .ok (decodeCmd w)
  | .event b => .ok (.rxbyte b)
  | .wire bs =>
    match decodeWire bs with
    | .error e => .error e
    | .ok (i, []) => .ok i
    | .ok (_, _ :: _) => .error .trailingBytes

/-- A sequence of wire symbols, at most `fuel` of them. -/
def decodeStream : Nat → List Byte → Except DecodeError (List Instr)
  | _, [] => .ok []
  | 0, _ :: _ => .error .trailingBytes
  | fuel + 1, bs =>
    match decodeWire bs with
    | .error e => .error e
    | .ok (i, rest) =>
      match decodeStream fuel rest with
      | .error e => .error e
      | .ok is => .ok (i :: is)

/-! ## The encoder -/

/-- The bytes of a wire symbol; none for an instruction that is no wire symbol. -/
def wireBytes : Instr → List Byte
  | .delim => [0x7E#8]
  | .esc11 => [0x7D#8, 0x31#8]
  | .esc13 => [0x7D#8, 0x33#8]
  | .esc7d => [0x7D#8, 0x5D#8]
  | .esc7e => [0x7D#8, 0x5E#8]
  | .lit b => [b]
  | .nop | .encode | .decode | .txsend | .rxarm | .rxstop | .prime | .csclr | .csadd _ | .reset | .reserved _
  | .rxbyte _ => []

/-- The encoding of an instruction; imm8 is written as 0 where it is not used (rule R112, decision D29). -/
def encode : Instr → Code
  | .nop => .cmd (cmdWord 0x00#8 0x00#8)
  | .encode => .cmd (cmdWord 0x00#8 0x01#8)
  | .decode => .cmd (cmdWord 0x00#8 0x02#8)
  | .txsend => .cmd (cmdWord 0x00#8 0x03#8)
  | .rxarm => .cmd (cmdWord 0x00#8 0x04#8)
  | .rxstop => .cmd (cmdWord 0x00#8 0x05#8)
  | .prime => .cmd (cmdWord 0x00#8 0x06#8)
  | .csclr => .cmd (cmdWord 0x00#8 0x07#8)
  | .csadd imm => .cmd (cmdWord imm 0x08#8)
  | .reset => .cmd (cmdWord 0x00#8 0x09#8)
  | .reserved op => .cmd (cmdWord 0x00#8 op)
  | .rxbyte b => .event b
  | .delim => .wire (wireBytes .delim)
  | .esc11 => .wire (wireBytes .esc11)
  | .esc13 => .wire (wireBytes .esc13)
  | .esc7d => .wire (wireBytes .esc7d)
  | .esc7e => .wire (wireBytes .esc7e)
  | .lit b => .wire (wireBytes (.lit b))

/-- The symbol the encoder puts on the wire for a logical byte (rules R95 to R100). -/
def symbolOf (b : Byte) : Instr :=
  if b = 0x11#8 then .esc11
  else if b = 0x13#8 then .esc13
  else if b = 0x7D#8 then .esc7d
  else if b = 0x7E#8 then .esc7e
  else .lit b

/-- The logical byte a wire symbol of the body stands for (rules R96 to R100); the delimiter stands for none (rule R101). -/
def rawOf : Instr → Option Byte
  | .esc11 => some 0x11#8
  | .esc13 => some 0x13#8
  | .esc7d => some 0x7D#8
  | .esc7e => some 0x7E#8
  | .lit b => some b
  | .delim | .nop | .encode | .decode | .txsend | .rxarm | .rxstop | .prime | .csclr | .csadd _ | .reset
  | .reserved _ | .rxbyte _ => none

/-! ## The opcode table's own numbering of bits -/

/-- What an `nbits`-bit row of spec/opcode_table.json with bits `w` is: 8 bits are one wire byte (WIRE8); 16 bits are an
escape pair with the marker in bits [15:8] if the bits are one (WIRE16), else a command word (CMD16); the row without
bits is the RXBYTE event, its byte taken as 0. Log entry 4. -/
def tableCode (nbits w : Nat) : Option Code :=
  match nbits with
  | 0 => some (.event 0x00#8)
  | 8 => some (.wire [BitVec.ofNat 8 w])
  | 16 =>
    match decode (.wire [immOf (BitVec.ofNat 16 w), opcodeOf (BitVec.ofNat 16 w)]) with
    | .ok _ => some (.wire [immOf (BitVec.ofNat 16 w), opcodeOf (BitVec.ofNat 16 w)])
    | .error _ => some (.cmd (BitVec.ofNat 16 w))
  | _ => none

/-- The instruction the decoder reads from a row's bits. -/
def decodeTableWord (nbits w : Nat) : Option Instr :=
  match tableCode nbits w with
  | none => none
  | some c =>
    match decode c with
    | .ok i => some i
    | .error _ => none

end Sys2Proof
end

