-- ==== Sys2Proof/Machine/State.lean ====
section
/-! DEFINITION. What the machine holds: the registers, buffers, streams and hidden registers of 10_state.md, the inputs
that stand before the block (host accesses, received bytes, the reset line), and the surrounding software of
44_session.md. All of it plain data. INVENTORY.md lists every field with its rule and its reset value. -/

namespace Sys2Proof.Machine

/-- The error kinds of rule R260, in the order of their codes 0 to 7. -/
inductive ErrorKind where
  | none
  | transportError
  | frameError
  | unknownEscapeCode
  | checksumMismatch
  /-- a result of the session only, never in ERR (rule R267) -/
  | unsupportedCommand
  /-- a result of the session only, never in ERR (rule R267) -/
  | dataError
  | illegalOp
deriving DecidableEq, Repr

/-- ENCST, the encoder state (rules R40, R151). -/
inductive EncState where
  | idle | adr | cmd | len | data | chk | eof
deriving DecidableEq, Repr

/-- DECST, the decoder state (rules R40, R172). -/
inductive DecState where
  | idle | hdr | scan | esc | len | sum
deriving DecidableEq, Repr

/-- The three buffers, each an address space of its own (rule R30). -/
inductive Space where
  | txpay | txw | rxb
deriving DecidableEq, Repr

/-- A buffer's contents: index and byte, indices strictly rising, the indices left out holding no value (rule R46). -/
abbrev Memory := List Host.Cell

/-- A value that moves over the host port: a byte, or a 16-bit register whole (rules R60, R68, R71). -/
inductive PortValue where
  | byte (v : Byte)
  | half (v : Word)
deriving DecidableEq, Repr

/-- The host's moves: exactly four kinds of access (rule R60). -/
inductive Access where
  | regRead (n : Nat)
  | regWrite (n : Nat) (v : PortValue)
  | bufRead (sp : Space) (i : Nat)
  | bufWrite (sp : Space) (i : Nat) (v : Byte)
deriving DecidableEq, Repr

/-- What a session operation answers its caller (rule R230): a value of the host, no register of the block. -/
inductive SessionResult where
  /-- `Ok` of send and activateTransport (rules R231, R234) -/
  | ok
  /-- `Ok(actual length)` of sendAndReceive (rule R238) -/
  | okLength (n : Nat)
  /-- the raw buffer of receiveFrame (rule R233) -/
  | raw (bytes : List Byte)
  /-- an error kind -/
  | error (e : ErrorKind)
deriving DecidableEq, Repr

/-- One move of the host program that a session operation is (rules R231 to R238): a host access, or a host-side test. -/
inductive HostAct where
  /-- an access of the expansion -/
  | access (a : Access)
  /-- `RD ERR` after TXSEND or PRIME; on an error the operation returns TransportError, after an RXSTOP if it runs
  inside sendAndReceive (rules R231, R232, R234) -/
  | checkSend (inExchange : Bool)
  /-- `RD STATUS`, again and again until RXDONE = 1 or the deadline (rule R233) -/
  | poll
  /-- `RD RXLEN`, and the raw buffer as the result (rule R233) -/
  | rawResult
  /-- `RD ERR` after DECODE; a nonzero code is the result (rules R232, R235) -/
  | checkDecode
  /-- the status test (rule R236) -/
  | statusTest
  /-- the capacity test (rule R237) -/
  | capacityTest
  /-- the copy, from payload byte i of n on (rule R238) -/
  | copy (i n : Nat)
  /-- the operation returns -/
  | finish (r : SessionResult)
deriving DecidableEq, Repr

/-- The calls of the Transport Session (rules R231 to R234). -/
inductive SessionCall where
  | send (address command : Byte) (payload : List Byte)
  | receiveFrame
  /-- `resp` is the caller's response buffer as it stands at the call: one place for each byte of its capacity, empty where
  the caller has written none (rules R232, R238) -/
  | sendAndReceive (address command : Byte) (payload : List Byte) (resp : List (Option Byte))
  | activateTransport
deriving DecidableEq, Repr

/-- The Transport Session: what is left of the running operation, the caller's response buffer, and the last result. -/
structure Session where
  /-- the moves still to make, the next one first; empty when no operation runs -/
  todo : List HostAct
  /-- responseBufferCapacity of the last sendAndReceive, the length of the buffer it was called with (rule R232) -/
  capacity : Nat
  /-- the caller's response buffer: what it held at the call, with the bytes the running or last sendAndReceive has copied
  over it (rule R238) -/
  resp : Memory
  /-- the result of the last operation that returned -/
  result : Option SessionResult
deriving DecidableEq, Repr

/-- What comes to the machine from outside, one whole event at a time (rules R35, R60, R70, R74, R290). -/
inductive Input where
  /-- the host makes an access -/
  | host (a : Access)
  /-- the channel delivers the next byte of RXS -/
  | rxByte (b : Byte)
  /-- the channel delivers the bytes of one wire symbol back to back -/
  | wire (bs : List Byte)
  /-- the reset line, asserted and released: one whole event. DESIGN CHOICE, log entry 19: rule R290's line is a level, and
  what the block does with an access or a byte that comes while it is held is left open -/
  | hardReset
  /-- the caller calls the session -/
  | call (c : SessionCall)
  /-- the session's running operation makes its next move -/
  | turn
  /-- the host's timeoutMs has run out -/
  | deadline
deriving DecidableEq, Repr

/-- The state. -/
structure State where
  /-- STATUS bit 0 (rule R22) -/
  txrdy : Bool
  /-- STATUS bit 1 -/
  rxarmed : Bool
  /-- STATUS bit 2 -/
  rxdone : Bool
  /-- STATUS bit 3 -/
  rxovf : Bool
  /-- STATUS bit 4 -/
  rxvalid : Bool
  /-- ERR, register 2 (rule R23) -/
  err : ErrorKind
  /-- TXADR, register 3 (rule R24) -/
  txadr : Byte
  /-- TXCMD, register 4 (rule R24) -/
  txcmd : Byte
  /-- TXLEN, register 5 (rule R24) -/
  txlen : Byte
  /-- TXWLEN, register 6 (rule R25) -/
  txwlen : Word
  /-- RXLEN, register 7 (rule R26) -/
  rxlen : Word
  /-- RXUSZ, register 8 (rule R27) -/
  rxusz : Word
  /-- RXADR, register 9 (rule R28) -/
  rxadr : Byte
  /-- RXCMD, register 10 (rule R28) -/
  rxcmd : Byte
  /-- RXPLEN, register 11 (rule R28) -/
  rxplen : Byte
  /-- CSACC, register 12 (rule R29) -/
  csacc : Byte
  /-- TXPAY, the payload operand (rule R31) -/
  txpay : Memory
  /-- TXW, the wire frame ENCODE built (rule R32) -/
  txw : Memory
  /-- RXB, the receive buffer (rule R33) -/
  rxb : Memory
  /-- TXS, every byte handed to the channel since hardware reset, oldest first (rule R34) -/
  txs : List Byte
  /-- ENCST, hidden (rule R40) -/
  encst : EncState
  /-- DECST, hidden (rule R40) -/
  decst : DecState
  /-- PI, hidden (rule R40) -/
  pi : Byte
  /-- RD, hidden (rule R40) -/
  rd : Word
  /-- WR, hidden (rule R40) -/
  wr : Word
  /-- DCNT, hidden (rule R40) -/
  dcnt : BitVec 2
  /-- the events that stand before the block, in the order in which they are served (rules R70, R74, R275) -/
  inputs : List Input
  /-- the channel's answers to the writes to come, the next one first (rule R201); the model's own -/
  answers : List Nat
  /-- the writes the channel has answered so far; the model's own, the argument of Config.written -/
  draws : Nat
  /-- the next fresh unspecified byte; the model's own, the argument of Config.freeByte -/
  freeCtr : Nat
  /-- the values the port has returned to the host, oldest first (rules R61, R63); the model's own trace -/
  portLog : List PortValue
  /-- the Transport Session (rules R230 to R242) -/
  session : Session
deriving DecidableEq, Repr

/-- Why the machine stops with a fault. -/
inductive Fault where
  /-- A buffer byte was read that nothing has written since reset (rule R46, U4: the treatment is `fault`). Raised by a
  host BufRead, by ENCODE on TXPAY, DECODE on RXB, TXSEND on TXW, and by the session's reads. Safe. -/
  | unwrittenByte
  /-- An operation's own index ran past its buffer (rules R41, R66, R73). Raised by the collector, the decoder's writes
  and the encoder's emits, in states no run from reset reaches. Safe. -/
  | outsideBuffer
deriving DecidableEq, Repr

/-- Why the machine refuses. -/
inductive Refusal where
  /-- exec has no meaning for the instruction yet. Safe. -/
  | notModelled (mnemonic : String)
  /-- A register number above 13 (rule R66, U5: the treatment is `refuse`). Raised by RegRead and RegWrite. Safe. -/
  | noSuchRegister
  /-- A buffer index at or beyond the space's size (rule R66, U5). Raised by BufRead and BufWrite. Safe. -/
  | noSuchIndex
  /-- A RegWrite whose value has not the register's width, an access rule R60 does not have. Raised by RegWrite. Safe. -/
  | widthMismatch
  /-- A host write to RXLEN or RXB while a collection is armed (rule R67, U6). Raised by RegWrite and BufWrite. Safe. -/
  | armedWrite
  /-- send or sendAndReceive of more than 255 payload bytes, which the host refuses before it starts (rule R231). Raised
  by a session call. Safe. -/
  | payloadTooLong
  /-- A session call while an operation runs (rule R241, U7: the treatment is `refuse`). Raised by a session call.
  Safe. -/
  | sessionBusy
deriving DecidableEq, Repr

/-- The outcome of an operation. -/
abbrev Res := Host.Outcome State Fault Refusal

/-- A session that has run nothing. -/
def Session.fresh : Session := { todo := [], capacity := 0, resp := [], result := none }

/-- The machine right after hardware reset (rules R45, R290, R291). Nothing stands before it; the model's own fields
start at zero or empty (log entries 1, 2, 5, 6, 7). -/
def State.reset : State where
  txrdy := false
  rxarmed := false
  rxdone := false
  rxovf := false
  rxvalid := false
  err := .none
  txadr := 0
  txcmd := 0
  txlen := 0
  txwlen := 0
  rxlen := 0
  rxusz := 0
  rxadr := 0
  rxcmd := 0
  rxplen := 0
  csacc := 0
  txpay := []
  txw := []
  rxb := []
  txs := []
  encst := .idle
  decst := .idle
  pi := 0
  rd := 0
  wr := 0
  dcnt := 0
  inputs := []
  answers := []
  draws := 0
  freeCtr := 0
  portLog := []
  session := Session.fresh

end Sys2Proof.Machine
end

