-- ==== Sys2Proof/Machine/Ops.lean ====
section
/-! DEFINITION. The operations every meaning is written over: running one operation after another, the buffers, `emit`,
`raise` (rule R270, the block's one way of taking an error), the channel's answer, and the two resets. -/

namespace Sys2Proof.Machine

/-! ## Sequence -/

/-- Run `k` on the next state, or stop as `r` stopped. -/
def andThen (r : Res) (k : State → Res) : Res :=
  match r with
  | .next s => k s
  | .fault f => .fault f
  | .refused q => .refused q

/-! ## Buffers (rules R30, R46, R63, R64) -/

/-- What an index that is not listed holds: no value (rule R46). -/
def Memory.unlisted : Option Byte := none

/-- The byte at an index, or no value. -/
def Memory.read : Memory → Nat → Option Byte
  | [], _ => Memory.unlisted
  | (a, b) :: m, i => if a = i then some b else Memory.read m i

/-- Put a byte at an index, keeping the indices rising. -/
def Memory.write : Memory → Nat → Byte → Memory
  | [], i, v => [(i, v)]
  | (a, b) :: m, i, v =>
    if i < a then (i, v) :: (a, b) :: m
    else if i = a then (i, v) :: m
    else (a, b) :: Memory.write m i v

/-- The canonical form: strictly rising indices. No entry can equal what an unlisted index reads as, which is no byte. -/
abbrev Memory.wf (m : Memory) : Prop := m.Pairwise (fun c d => c.1 < d.1)

/-- The `k` bytes from index `i` on, if every one of them holds a value. -/
def Memory.readRange (m : Memory) (i : Nat) : Nat → Option (List Byte)
  | 0 => some []
  | k + 1 =>
    match Memory.read m i with
    | none => none
    | some b =>
      match Memory.readRange m (i + 1) k with
      | none => none
      | some bs => some (b :: bs)

/-- Put a byte sequence from index `i` on. -/
def Memory.writeRange (m : Memory) (i : Nat) : List Byte → Memory
  | [] => m
  | b :: bs => Memory.writeRange (Memory.write m i b) (i + 1) bs

/-- The size of a space (rule R30). -/
def Space.size : Space → Nat
  | .txpay => Config.maxPay
  | .txw => Config.txwCap
  | .rxb => Config.rxCap

/-- The contents of a space. -/
def State.mem (s : State) : Space → Memory
  | .txpay => s.txpay
  | .txw => s.txw
  | .rxb => s.rxb

/-- The state with a space's contents replaced. -/
def State.setMem (s : State) (sp : Space) (m : Memory) : State :=
  match sp with
  | .txpay => { s with txpay := m }
  | .txw => { s with txw := m }
  | .rxb => { s with rxb := m }

/-- `MemRead(SPACE:i, 1)` inside an operation (rule R13): go on with the byte, or fault where there is none. -/
def fetchByte (sp : Space) (i : Nat) (s : State) (k : Byte → Res) : Res :=
  if i < sp.size then
    match Memory.read (s.mem sp) i with
    | none => .fault .unwrittenByte
    | some b => k b
  else .fault .outsideBuffer

/-- `MemWrite(SPACE:i, 1, v)` inside an operation (rule R13). -/
def storeByte (sp : Space) (i : Nat) (v : Byte) (s : State) : Res :=
  if i < sp.size then .next (s.setMem sp (Memory.write (s.mem sp) i v)) else .fault .outsideBuffer

/-! ## Emitting into TXW (rules R13, R152) -/

/-- `emit(b)`. -/
def emit (b : Byte) (s : State) : Res :=
  andThen (storeByte .txw s.txwlen.toNat b s) fun t => .next { t with txwlen := t.txwlen + 1 }

/-- `emit` of each byte in turn. -/
def emitAll : List Byte → State → Res
  | [], s => .next s
  | b :: bs, s => andThen (emit b s) (emitAll bs)

/-- `emit_esc(b)` (rule R152). -/
def emitEsc (b : Byte) (s : State) : Res := emitAll (esc b) s

/-! ## Taking an error (rules R23, R270, R273). There is nothing to return from. -/

/-- ERR after a command that succeeded: `None`. -/
def succeed (s : State) : State := { s with err := .none }

/-- `raise <Error>`: the code goes to ERR, ENCST and DECST return to idle, and what the operation had already written
stays written. -/
def raise (e : ErrorKind) (s : State) : State := { s with err := e, encst := .idle, decst := .idle }

/-- The `n` free bytes from counter `c` on. -/
def freeBytes (c : Nat) : Nat → List Byte
  | 0 => []
  | n + 1 => Config.freeByte c :: freeBytes (c + 1) n

/-- RXB[0..RXLEN) after a failed DECODE: unspecified, byte by byte (rule R272). -/
def unspecifyRxb (s : State) : State :=
  { s with
    rxb := Memory.writeRange s.rxb 0 (freeBytes s.freeCtr s.rxlen.toNat)
    freeCtr := s.freeCtr + s.rxlen.toNat }

/-- `raise` inside DECODE after its preconditions (rules R181, R270, R272). -/
def raiseDecode (e : ErrorKind) (s : State) : State := raise e (unspecifyRxb s)

/-! ## The channel's answer to a write (rule R201) -/

/-- `written(m)`: the next answer from outside, or a free value, cut to 0..m. -/
def channelAnswer (m : Nat) (s : State) : Nat :=
  match s.answers with
  | [] => min (Config.written s.draws m) m
  | a :: _ => min a m

/-- One draw is made. -/
def afterAnswer (s : State) : State := { s with answers := s.answers.tail, draws := s.draws + 1 }

/-- `TxOut` of each byte in turn (rule R13). -/
def txOut (bs : List Byte) (s : State) : State := { s with txs := s.txs ++ bs }

/-- How a write of `m` bytes ends of which the channel took `k` (rules R200, R208). -/
def endWrite (k m : Nat) (s : State) : State :=
  { s with
    err := if k < m then .transportError else .none
    encst := if k < m then .idle else s.encst
    decst := if k < m then .idle else s.decst }

/-! ## Reset (rules R45, R251, R290, R292) -/

/-- Every storage element of the block at its reset value, TXS and what is not the block's as they were. -/
def resetBlock (s : State) : State :=
  { State.reset with
    txs := s.txs
    inputs := s.inputs
    answers := s.answers
    draws := s.draws
    freeCtr := s.freeCtr
    portLog := s.portLog
    session := s.session }

/-- The reset line: the same, and TXS empty. -/
def hardwareReset (s : State) : State := { resetBlock s with txs := [] }

end Sys2Proof.Machine
end

