-- ==== Sys2Proof/Machine/Flags.lean ====
section
/-! DEFINITION. STATUS, its five flags and everything that writes them (rule R22). No arithmetic operation sets a flag. -/

namespace Sys2Proof.Machine

/-- STATUS as the host reads it: TXRDY, RXARMED, RXDONE, RXOVF, RXVALID in bits 0 to 4, bits 7:5 zero (rules R22, R61). -/
def statusReg (s : State) : Byte :=
  0#3 ++ BitVec.ofBool s.rxvalid ++ BitVec.ofBool s.rxovf ++ BitVec.ofBool s.rxdone ++ BitVec.ofBool s.rxarmed
    ++ BitVec.ofBool s.txrdy

/-- RXARM's flags (rule R203). -/
def flagsArm (s : State) : State := { s with rxarmed := true, rxdone := false, rxovf := false, rxvalid := false }

/-- The collector closes, or RXSTOP closes it (rules R204, R206). -/
def flagsClose (s : State) : State := { s with rxarmed := false, rxdone := true }

/-- The collector closes for want of room (rule R204). -/
def flagsCloseFull (s : State) : State := { flagsClose s with rxovf := true }

/-- A host write to RXLEN or RXB, or DECODE at its start, clears RXVALID (rules R22, R62, R64, R170). -/
def flagsInvalidate (s : State) : State := { s with rxvalid := false }

end Sys2Proof.Machine
end

