-- ==== Sys2Proof/Machine/Operands.lean ====
section
/-! DEFINITION. The operand forms: a register by number (rules R20, R60 to R62), the codes of ERR (rule R260), and the
two sums of the Checksum Engine (rules R29, R130). -/

namespace Sys2Proof.Machine

/-! ## The Checksum Engine's arithmetic (rules R130, R131) -/

/-- The sum of a byte sequence mod 256. -/
def sumBytes : List Byte → Byte
  | [] => 0
  | b :: bs => b + sumBytes bs

/-- `checksum(bytes)`, the complement of the sum (rule R130). -/
def checksum (bs : List Byte) : Byte := ~~~ sumBytes bs

/-- One byte into the accumulator, the carry dropped (rules R131, R134). -/
def accumulate (b : Byte) (s : State) : State := { s with csacc := s.csacc + b }

/-! ## ERR's codes (rule R260) -/

/-- The code of an error kind. -/
def ErrorKind.code : ErrorKind → Byte
  | .none => 0
  | .transportError => 1
  | .frameError => 2
  | .unknownEscapeCode => 3
  | .checksumMismatch => 4
  | .unsupportedCommand => 5
  | .dataError => 6
  | .illegalOp => 7

/-- The classes of rule R261. -/
inductive ErrorClass where
  | noError | transport | malformedFrame | dataClass | peerRefusal | misuse
deriving DecidableEq, Repr

/-- The class of an error kind (rules R260, R261). -/
def ErrorKind.errorClass : ErrorKind → ErrorClass
  | .none => .noError
  | .transportError => .transport
  | .frameError => .malformedFrame
  | .unknownEscapeCode => .malformedFrame
  | .checksumMismatch => .dataClass
  | .unsupportedCommand => .peerRefusal
  | .dataError => .dataClass
  | .illegalOp => .misuse

/-! ## Registers by number (rules R20, R61) -/

/-- `RegRead(n)`: the value of register n, none above 13. CMD reads 0x0000 and CSOUT reads the complement of CSACC. -/
def regValue (n : Nat) (s : State) : Option PortValue :=
  match n with
  | 0 => some (.half 0)
  | 1 => some (.byte (statusReg s))
  | 2 => some (.byte s.err.code)
  | 3 => some (.byte s.txadr)
  | 4 => some (.byte s.txcmd)
  | 5 => some (.byte s.txlen)
  | 6 => some (.half s.txwlen)
  | 7 => some (.half s.rxlen)
  | 8 => some (.half s.rxusz)
  | 9 => some (.byte s.rxadr)
  | 10 => some (.byte s.rxcmd)
  | 11 => some (.byte s.rxplen)
  | 12 => some (.byte s.csacc)
  | 13 => some (.byte (~~~ s.csacc))
  | _ => none

/-- Whether register n is 16 bits wide (rule R20). -/
def regIsWide (n : Nat) : Bool :=
  match n with
  | 0 | 6 | 7 | 8 => true
  | _ => false

/-- Whether a value has register n's width (rule R60). -/
def widthFits (n : Nat) (v : PortValue) : Bool :=
  match v with
  | .byte _ => !regIsWide n
  | .half _ => regIsWide n

end Sys2Proof.Machine
end

