-- ==== Sys2Proof/Machine/Channel.lean ====
section
/-! DEFINITION. The channel side, 43_channel.md: TXSEND, PRIME, RXARM, RXBYTE, RXSTOP. -/

namespace Sys2Proof.Machine

/-- TXSEND (rules R200 to R202): the first k of the TXWLEN bytes go out, k the channel's answer. -/
def execTxsend (s : State) : Res :=
  if s.txrdy then
    match Memory.readRange s.txw 0 (channelAnswer s.txwlen.toNat s) with
    | none => .fault .unwrittenByte
    | some bs =>
      .next (endWrite (channelAnswer s.txwlen.toNat s) s.txwlen.toNat (txOut bs (afterAnswer s)))
  else .next (raise .illegalOp s)

/-- PRIME (rule R208): the raw byte 0xFF, if the channel takes it. -/
def execPrime (s : State) : Res :=
  .next (endWrite (channelAnswer 1 s) 1
    (txOut (List.replicate (channelAnswer 1 s) Config.primeByte) (afterAnswer s)))

/-- RXARM (rule R203). -/
def execRxarm (s : State) : Res := .next (succeed (flagsArm { s with rxlen := 0, dcnt := 0 }))

/-- RXSTOP (rule R206). -/
def execRxstop (s : State) : Res := .next (succeed (if s.rxarmed then flagsClose s else s))

/-- DCNT and RXLEN after a byte has been stored (rule R204). -/
def countByte (b : Byte) (s : State) : State :=
  { s with rxlen := s.rxlen + 1, dcnt := if b = Config.delim then s.dcnt + 1 else s.dcnt }

/-- The collector closes on the second delimiter, or when RXB is full (rule R204). -/
def closeIfDone (s : State) : State :=
  if s.dcnt = 2 then flagsClose s
  else if s.rxlen.toNat = Config.rxCap then flagsCloseFull s
  else s

/-- The collector takes one received byte (rule R204). -/
def collect (b : Byte) (s : State) : Res :=
  if s.rxarmed then
    andThen (storeByte .rxb s.rxlen.toNat b s) fun t => .next (closeIfDone (countByte b t))
  else .next s

/-- The collector takes received bytes one after another (rules R35, R79). -/
def collectAll : List Byte → State → Res
  | [], s => .next s
  | b :: bs, s => andThen (collect b s) (collectAll bs)

/-- RXBYTE(b) (rule R204). -/
def execRxbyte (b : Byte) (s : State) : Res := collect b s

end Sys2Proof.Machine
end

