-- ==== Sys2Proof/Machine/Checksum.lean ====
section
/-! DEFINITION. The Checksum Engine's commands, 40_checksum.md. -/

namespace Sys2Proof.Machine

/-- CSCLR (rule R133). -/
def execCsclr (s : State) : Res := .next (succeed { s with csacc := 0 })

/-- CSADD imm8 (rule R134). -/
def execCsadd (imm : Byte) (s : State) : Res := .next (succeed (accumulate imm s))

end Sys2Proof.Machine
end

