-- ==== Sys2Proof/Machine/Encoder.lean ====
section
/-! DEFINITION. ENCODE, the escape encoder and checksum generator, 41_encode.md; and the function it computes. -/

namespace Sys2Proof.Machine

/-! ## The function (rules R90, R91, R153) -/

/-- The logical fields the checksum covers: address, command, length, payload (rules R91, R94). -/
def logicalFields (address command : Byte) (payload : List Byte) : List Byte :=
  address :: command :: BitVec.ofNat 8 payload.length :: payload

/-- The logical body: the fields and their checksum (rule R91). -/
def logicalBody (address command : Byte) (payload : List Byte) : List Byte :=
  logicalFields address command payload ++ [checksum (logicalFields address command payload)]

/-- The wire bytes of a logical body, byte by byte (rule R90). -/
def escapeAll : List Byte → List Byte
  | [] => []
  | b :: bs => esc b ++ escapeAll bs

/-- `stuff(address, command, payload)`, the wire frame (rule R153). -/
def stuff (address command : Byte) (payload : List Byte) : List Byte :=
  Config.delim :: (escapeAll (logicalBody address command payload) ++ [Config.delim])

/-! ## The operation (rule R150) -/

/-- One body byte: emitted, escaped, and added to CSACC. -/
def encodeByte (b : Byte) (s : State) : Res := andThen (emitEsc b s) fun t => .next (accumulate b t)

/-- Step 3, with `n` payload bytes still to go. -/
def encodePayload : Nat → State → Res
  | 0, s => .next s
  | n + 1, s =>
    fetchByte .txpay s.pi.toNat s fun p =>
      andThen (encodeByte p s) fun t => encodePayload n { t with pi := t.pi + 1 }

/-- The end of ENCODE: TXRDY is set, ERR is `None`, the encoder is idle. -/
def encodeEnd (s : State) : State := succeed { s with txrdy := true, encst := .idle }

/-- ENCODE (rule R150). -/
def execEncode (s : State) : Res :=
  andThen (emit Config.delim { s with txwlen := 0, csacc := 0 }) fun s1 =>
  andThen (encodeByte s1.txadr s1) fun s2 =>
  andThen (encodeByte s2.txcmd s2) fun s3 =>
  andThen (encodeByte s3.txlen s3) fun s4 =>
  andThen (encodePayload s4.txlen.toNat { s4 with pi := 0 }) fun s5 =>
  andThen (emitEsc (~~~ s5.csacc) s5) fun s6 =>
  andThen (emit Config.delim s6) fun s7 => .next (encodeEnd s7)

end Sys2Proof.Machine
end

