-- ==== Sys2Proof/Machine/Decoder.lean ====
section
/-! DEFINITION. DECODE, the in-place escape decoder, delimiter checks and checksum validator, 42_decode.md; and the
function it computes. -/

namespace Sys2Proof.Machine

/-! ## The function (rule R187) -/

/-- The scan of step 2 over the bytes from index 1 to the closing delimiter, which itself is looked at only as the
follower of a marker that stands last in the body (rules R104, R105, R174 to R176). -/
def unescape : List Byte → Except ErrorKind (List Byte)
  | [] => .ok []
  | [_] => .ok []
  | b :: f :: rest =>
    if b = Config.delim then .error .frameError
    else if b = Config.esc then
      match unesc f with
      | none => .error .unknownEscapeCode
      | some raw =>
        match unescape rest with
        | .error e => .error e
        | .ok l => .ok (raw :: l)
    else
      match unescape (f :: rest) with
      | .error e => .error e
      | .ok l => .ok (b :: l)

/-- Steps 3 and 4 on the logical body (rules R178, R179): address, command, length, payload, or the error. -/
def validate (l : List Byte) : Except ErrorKind (Byte × Byte × Byte × List Byte) :=
  match l with
  | a :: c :: n :: rest =>
    if n.toNat + Config.ovh ≠ l.length then .error .frameError
    else if l.getLast? ≠ some (checksum l.dropLast) then .error .checksumMismatch
    else .ok (a, c, n, rest.dropLast)
  | _ => .error .frameError

/-- `unstuff`, on the received bytes RXB[0..RXLEN) (rules R170, R187). -/
def unstuff (raw : List Byte) : Except ErrorKind (Byte × Byte × Byte × List Byte) :=
  if raw.length < Config.minLen then .error .frameError
  else if raw.head? ≠ some Config.delim then .error .frameError
  else if raw.getLast? ≠ some Config.delim then .error .frameError
  else
    match unescape raw.tail with
    | .error e => .error e
    | .ok l => validate l

/-! ## The operation (rule R170) -/

/-- What DECODE clears at its start. -/
def decodeStart (s : State) : State := { flagsInvalidate s with rxusz := 0, csacc := 0 }

/-- Step 5 (rule R180). -/
def decodeEnd (a c n : Byte) (s : State) : State :=
  succeed { s with rxadr := a, rxcmd := c, rxplen := n, rxvalid := true, decst := .idle }

/-- The test of step 4, RD standing at the checksum byte (rule R179), and step 5. -/
def compareChecksum (s : State) : Res :=
  fetchByte .rxb s.rd.toNat s fun c =>
    if ~~~ s.csacc ≠ c then .next (raiseDecode .checksumMismatch s)
    else
      fetchByte .rxb 0 s fun a =>
      fetchByte .rxb 1 s fun cmd =>
      fetchByte .rxb 2 s fun n => .next (decodeEnd a cmd n s)

/-- The sum of step 4, with `k` bytes still to add. -/
def sumLoop : Nat → State → Res
  | 0, s => compareChecksum s
  | k + 1, s => fetchByte .rxb s.rd.toNat s fun b => sumLoop k { accumulate b s with rd := s.rd + 1 }

/-- The length test of step 3, formed in 16 bits (rules R138, R178). -/
def lengthMatches (l : Byte) (usz : Word) : Bool := l.setWidth 16 + 4#16 == usz

/-- The end of the scan and step 3 (rules R177, R178). -/
def decodeLength (s : State) : Res :=
  fetchByte .rxb 2 { s with rxusz := s.wr } fun l =>
    if lengthMatches l s.wr then sumLoop (s.wr.toNat - 1) { s with rxusz := s.wr, rd := 0 }
    else .next (raiseDecode .frameError { s with rxusz := s.wr })

/-- A logical byte goes to RXB[WR]; both cursors move on (rule R174). -/
def scanPut (raw : Byte) (s : State) : Res :=
  andThen (storeByte .rxb s.wr.toNat raw s) fun t => .next { t with wr := t.wr + 1, rd := t.rd + 1 }

/-- The follower of a marker, RD standing at it (rule R175). -/
def scanFollower (s : State) : Res :=
  fetchByte .rxb s.rd.toNat s fun f =>
    match unesc f with
    | none => .next (raiseDecode .unknownEscapeCode s)
    | some raw => scanPut raw s

/-- One wire symbol of the body, RD standing at its first byte (rules R104, R174 to R176). -/
def scanSymbol (s : State) : Res :=
  fetchByte .rxb s.rd.toNat s fun b =>
    if b = Config.delim then .next (raiseDecode .frameError s)
    else if b = Config.esc then scanFollower { s with rd := s.rd + 1 }
    else scanPut b s

/-- Step 2 and what follows it. The scan stops where an error has left the scanning state; `fuel` bounds the symbols and
RXLEN of it is always enough (rule R184). -/
def scanLoop : Nat → State → Res
  | 0, s => decodeLength s
  | fuel + 1, s =>
    if s.rd.toNat + 2 ≤ s.rxlen.toNat then
      andThen (scanSymbol s) fun t => if t.decst = .scan then scanLoop fuel t else .next t
    else decodeLength s

/-- Step 1 (rule R173); `k` runs on if it passes. -/
def decodeHeader (s : State) (k : State → Res) : Res :=
  if s.rxlen.toNat < Config.minLen then .next (raiseDecode .frameError s)
  else
    fetchByte .rxb 0 s fun first =>
      if first ≠ Config.delim then .next (raiseDecode .frameError s)
      else
        fetchByte .rxb (s.rxlen.toNat - 1) s fun last =>
          if last ≠ Config.delim then .next (raiseDecode .frameError s) else k s

/-- DECODE's own preconditions (rule R171). -/
def decodeRefused (s : State) : Bool := s.rxarmed || decide (Config.rxCap < s.rxlen.toNat)

/-- DECODE (rule R170). -/
def execDecode (s : State) : Res :=
  if decodeRefused s then .next (raise .illegalOp s)
  else
    decodeHeader (decodeStart s) fun t =>
      scanLoop t.rxlen.toNat { t with rd := 1, wr := 0, decst := .scan }

end Sys2Proof.Machine
end

