-- ==== Sys2Proof/Machine/System.lean ====
section
/-! DEFINITION. NOP, RESET and the reserved opcodes, 45_system.md. -/

namespace Sys2Proof.Machine

/-- NOP (rule R250): nothing, ERR included. -/
def execNop (s : State) : Res := .next s

/-- RESET (rule R251): the reset state, TXS as it was. -/
def execReset (s : State) : Res := .next (resetBlock s)

/-- A reserved opcode (rules R111, R252): IllegalOp, whichever opcode it is. -/
def execReserved (_op : Byte) (s : State) : Res := .next (raise .illegalOp s)

end Sys2Proof.Machine
end

