-- ==== Sys2Proof/Machine/Wire.lean ====
section
/-! DEFINITION. The wire symbols, rules R96 to R101. The spec gives a wire symbol its effect in three places: the decoder
that scans the body (rules R104, R172), the encoder that emits it (rule R152), and the collector, which takes its bytes
one by one and interprets none (rule R205). Which of them acts is the codec's state. Log entry 8. -/

namespace Sys2Proof.Machine

/-- A symbol that is sent as `bytes`: emitted by a running encoder, else delivered to the collector. -/
def wireOutsideScan (bytes : List Byte) (s : State) : Res :=
  if s.encst = .idle then collectAll bytes s else emitAll bytes s

/-- An escape pair that stands for `raw`: in the scan RD passes the marker and the logical byte is written. -/
def wirePair (code raw : Byte) (s : State) : Res :=
  if s.decst = .scan then scanPut raw { s with rd := s.rd + 1 } else wireOutsideScan [Config.esc, code] s

/-- DELIM (rule R101): in the scan a stray delimiter, FrameError (rule R176). -/
def execDelim (s : State) : Res :=
  if s.decst = .scan then .next (raiseDecode .frameError s) else wireOutsideScan [Config.delim] s

/-- ESC_11 (rule R96). -/
def execEsc11 (s : State) : Res := wirePair 0x31#8 0x11#8 s

/-- ESC_13 (rule R97). -/
def execEsc13 (s : State) : Res := wirePair 0x33#8 0x13#8 s

/-- ESC_7D (rule R98). -/
def execEsc7d (s : State) : Res := wirePair 0x5D#8 0x7D#8 s

/-- ESC_7E (rule R99). -/
def execEsc7e (s : State) : Res := wirePair 0x5E#8 0x7E#8 s

/-- LIT (rule R100). -/
def execLit (b : Byte) (s : State) : Res :=
  if s.decst = .scan then scanPut b s else wireOutsideScan [b] s

end Sys2Proof.Machine
end

