-- ==== Sys2Proof/Machine/Dispatch.lean ====
section
/-! DEFINITION. One arm per row of spec/opcode_table.json. -/

namespace Sys2Proof.Machine

def exec (i : Instr) (s : State) : Host.Outcome State Fault Refusal :=
  match i with
  | .nop => Sys2Proof.Machine.execNop s
  | .encode => Sys2Proof.Machine.execEncode s
  | .decode => Sys2Proof.Machine.execDecode s
  | .txsend => Sys2Proof.Machine.execTxsend s
  | .rxarm => Sys2Proof.Machine.execRxarm s
  | .rxstop => Sys2Proof.Machine.execRxstop s
  | .prime => Sys2Proof.Machine.execPrime s
  | .csclr => Sys2Proof.Machine.execCsclr s
  | .csadd imm => Sys2Proof.Machine.execCsadd imm s
  | .reset => Sys2Proof.Machine.execReset s
  | .reserved op => Sys2Proof.Machine.execReserved op s
  | .rxbyte b => Sys2Proof.Machine.execRxbyte b s
  | .delim => Sys2Proof.Machine.execDelim s
  | .esc11 => Sys2Proof.Machine.execEsc11 s
  | .esc13 => Sys2Proof.Machine.execEsc13 s
  | .esc7d => Sys2Proof.Machine.execEsc7d s
  | .esc7e => Sys2Proof.Machine.execEsc7e s
  | .lit b => Sys2Proof.Machine.execLit b s

end Sys2Proof.Machine
end

