-- ==== Sys2Proof/Machine/Port.lean ====
section
/-! DEFINITION. The host port, 20_memory.md: RegRead, RegWrite, BufRead, BufWrite (rules R60 to R67). -/

namespace Sys2Proof.Machine

/-- A value goes back to the host. -/
def answer (v : PortValue) (s : State) : State := { s with portLog := s.portLog ++ [v] }

/-- `RegRead(n)` (rules R61, R66). -/
def hostRegRead (n : Nat) (s : State) : Res :=
  match regValue n s with
  | none => .refused .noSuchRegister
  | some v => .next (answer v s)

/-- The write of CMD: the word is decoded and its operation runs whole (rules R21, R62, R70). -/
def writeCmd (w : Word) (s : State) : Res := exec (decodeCmd w) s

/-- The write of RXLEN (rules R26, R62, R67). -/
def writeRxlen (w : Word) (s : State) : Res :=
  if s.rxarmed then .refused .armedWrite else .next { flagsInvalidate s with rxlen := w }

/-- `RegWrite(n, v)` (rules R62, R65, R66, R67). Registers 1, 2, 6 and 8 to 13 are read-only: the write is dropped. -/
def hostRegWrite (n : Nat) (v : PortValue) (s : State) : Res :=
  if 13 < n then .refused .noSuchRegister
  else
    match n, v with
    | 0, .half w => writeCmd w s
    | 3, .byte b => .next { s with txadr := b }
    | 4, .byte b => .next { s with txcmd := b }
    | 5, .byte b => .next { s with txlen := b }
    | 7, .half w => writeRxlen w s
    | _, _ => if widthFits n v then .next s else .refused .widthMismatch

/-- `BufRead(SPACE, i)` (rules R46, R63, R66). -/
def hostBufRead (sp : Space) (i : Nat) (s : State) : Res :=
  if i < sp.size then
    match Memory.read (s.mem sp) i with
    | none => .fault .unwrittenByte
    | some b => .next (answer (.byte b) s)
  else .refused .noSuchIndex

/-- `BufWrite(SPACE, i, v)` (rules R64 to R67). -/
def hostBufWrite (sp : Space) (i : Nat) (v : Byte) (s : State) : Res :=
  if i < sp.size then
    match sp with
    | .txpay => .next { s with txpay := Memory.write s.txpay i v }
    | .txw => .next s
    | .rxb =>
      if s.rxarmed then .refused .armedWrite
      else .next { flagsInvalidate s with rxb := Memory.write s.rxb i v }
  else .refused .noSuchIndex

/-- One host access (rule R60). -/
def hostAccess (a : Access) (s : State) : Res :=
  match a with
  | .regRead n => hostRegRead n s
  | .regWrite n v => hostRegWrite n v s
  | .bufRead sp i => hostBufRead sp i s
  | .bufWrite sp i v => hostBufWrite sp i v s

/-- A host program: accesses one after another (rules R74, R113). -/
def hostProgram : List Access → State → Res
  | [], s => .next s
  | a :: as, s => andThen (hostAccess a s) (hostProgram as)

/-- The access a bare mnemonic stands for: `WR CMD, word` (rule R113). -/
def command (imm op : Byte) : Access := .regWrite 0 (.half (cmdWord imm op))

/-- `load s` of 95_test_vectors.md P5: `WB RXB[i], s[i]` for each byte from index `i` on, then `WR RXLEN, n`. -/
def loadRxb (i : Nat) (n : Word) : List Byte → List Access
  | [] => [.regWrite 7 (.half n)]
  | b :: bs => .bufWrite .rxb i b :: loadRxb (i + 1) n bs

/-- The pseudo-instruction `checksum(bytes)`: CSCLR, a CSADD for each byte, and the read of CSOUT (rules R114, R136). -/
def checksumProgram (bs : List Byte) : List Access :=
  command 0x00#8 0x07#8 :: (bs.map (fun b => command b 0x08#8) ++ [.regRead 13])

end Sys2Proof.Machine
end

