-- ==== Sys2Proof/Machine/Session.lean ====
section
/-! DEFINITION. The Transport Session, 44_session.md: each operation a host program over the port, one move a turn, so
that received bytes may fall between any two of its accesses (rules R70, R230, R275). -/

namespace Sys2Proof.Machine

/-! ## The expansions -/

/-- `WB TXPAY[i], payload[i]` for each payload byte from index `i` on. -/
def payloadWrites (i : Nat) : List Byte → List HostAct
  | [] => []
  | p :: ps => .access (.bufWrite .txpay i p) :: payloadWrites (i + 1) ps

/-- The accesses of send (rule R231), up to and with the reading of ERR. -/
def sendActs (address cmd : Byte) (payload : List Byte) (inExchange : Bool) : List HostAct :=
  .access (.regWrite 3 (.byte address)) :: .access (.regWrite 4 (.byte cmd)) ::
  .access (.regWrite 5 (.byte (BitVec.ofNat 8 payload.length))) ::
  (payloadWrites 0 payload ++
    [.access (command 0x00#8 0x01#8), .access (command 0x00#8 0x03#8), .checkSend inExchange])

/-- The expansion of a call (rules R231 to R234). sendAndReceive arms before it sends (decision D34). Its wait takes in the
closing RD RXLEN of rule R233, which program P3 leaves out (DESIGN CHOICE, log entry 20). A receiveFrame by itself always
arms, also where its caller has armed (DEDUCED from rule R242, log entry 21). -/
def expansion : SessionCall → List HostAct
  | .send a c p => sendActs a c p false ++ [.finish .ok]
  | .receiveFrame => [.access (command 0x00#8 0x04#8), .poll, .rawResult]
  | .sendAndReceive a c p _ =>
    .access (command 0x00#8 0x04#8) ::
    (sendActs a c p true ++
      [.poll, .access (.regRead 7), .access (command 0x00#8 0x02#8), .checkDecode, .statusTest, .capacityTest])
  | .activateTransport => [.access (command 0x00#8 0x06#8), .checkSend false, .finish .ok]

/-- The payload a call sends. -/
def callPayload : SessionCall → List Byte
  | .send _ _ p => p
  | .sendAndReceive _ _ p _ => p
  | .receiveFrame => []
  | .activateTransport => []

/-- The caller's buffer from index `i` on; a place without a byte holds no value. -/
def callerBuffer (i : Nat) : List (Option Byte) → Memory
  | [] => []
  | none :: rest => callerBuffer (i + 1) rest
  | some b :: rest => (i, b) :: callerBuffer (i + 1) rest

/-- The session at the start of a call; sendAndReceive brings the caller's buffer, with what it already holds (rule R238). -/
def callSession (c : SessionCall) (ss : Session) : Session :=
  match c with
  | .sendAndReceive _ _ _ resp =>
    { todo := expansion c, capacity := resp.length, resp := callerBuffer 0 resp, result := none }
  | .send _ _ _ => { ss with todo := expansion c, result := none }
  | .receiveFrame => { ss with todo := expansion c, result := none }
  | .activateTransport => { ss with todo := expansion c, result := none }

/-- A call (rules R231, R241): refused while an operation runs, and for a payload of more than 255 bytes. -/
def sessionCall (c : SessionCall) (s : State) : Res :=
  if s.session.todo ≠ [] then .refused .sessionBusy
  else if Config.maxPay < (callPayload c).length then .refused .payloadTooLong
  else .next { s with session := callSession c s.session }

/-! ## The moves -/

/-- The running operation returns. -/
def sessionReturn (r : SessionResult) (s : State) : State :=
  { s with session := { s.session with todo := [], result := some r } }

/-- The moves that are left. -/
def sessionGo (acts : List HostAct) (s : State) : State := { s with session := { s.session with todo := acts } }

/-- Rule R231 and rule R232 (2): what follows the reading of ERR after TXSEND or PRIME. -/
def afterSend (inExchange : Bool) (rest : List HostAct) (s : State) : State :=
  if s.err = .none then sessionGo rest s
  else if inExchange then
    sessionGo [.access (command 0x00#8 0x05#8), .finish (.error .transportError)] s
  else sessionReturn (.error .transportError) s

/-- The raw buffer RXB[0..RXLEN) as receiveFrame's result (rule R233). -/
def returnRaw (s : State) : Res :=
  match Memory.readRange s.rxb 0 s.rxlen.toNat with
  | none => .fault .unwrittenByte
  | some bs => .next (sessionReturn (.raw bs) s)

/-- The status test on the decoded frame (rule R236). -/
def sessionStatusTest (rest : List HostAct) (s : State) : Res :=
  match Memory.readRange s.rxb 3 s.rxplen.toNat with
  | none => .fault .unwrittenByte
  | some payload =>
    .next (if Config.statusOf s.rxadr s.rxcmd s.rxplen payload = 0 then sessionGo rest s
      else sessionReturn (.error .unsupportedCommand) s)

/-- The capacity test (rule R237): RXPLEN is read, and the copy begins if the payload fits. That it is read here, after the
status test, where program P3 reads it before, is a DESIGN CHOICE, log entry 20. -/
def sessionCapacityTest (s : State) : Res :=
  andThen (hostAccess (.regRead 11) s) fun t =>
    .next (if t.session.capacity < t.rxplen.toNat then sessionReturn (.error .dataError) t
      else sessionGo [.copy 0 t.rxplen.toNat] t)

/-- One payload byte into the caller's buffer, its other bytes untouched, or the end of the copy (rule R238). -/
def sessionCopy (i n : Nat) (s : State) : Res :=
  if i < n then
    match Memory.read s.rxb (3 + i) with
    | none => .fault .unwrittenByte
    | some b =>
      andThen (hostAccess (.bufRead .rxb (3 + i)) s) fun t =>
        .next { t with session := { t.session with todo := [.copy (i + 1) n], resp := Memory.write t.session.resp i b } }
  else .next (sessionReturn (.okLength n) s)

/-- The next move of the running operation; nothing where none runs. -/
def sessionTurn (s : State) : Res :=
  match s.session.todo with
  | [] => .next s
  | .access a :: rest => andThen (hostAccess a s) fun t => .next (sessionGo rest t)
  | .checkSend x :: rest => andThen (hostAccess (.regRead 2) s) fun t => .next (afterSend x rest t)
  | .poll :: rest =>
    andThen (hostAccess (.regRead 1) s) fun t => .next (if t.rxdone then sessionGo rest t else t)
  | .rawResult :: _ => andThen (hostAccess (.regRead 7) s) returnRaw
  | .checkDecode :: rest =>
    andThen (hostAccess (.regRead 2) s) fun t =>
      .next (if t.err = .none then sessionGo rest t else sessionReturn (.error t.err) t)
  | .statusTest :: rest => sessionStatusTest rest s
  | .capacityTest :: _ => sessionCapacityTest s
  | .copy i n :: _ => sessionCopy i n s
  | .finish r :: _ => .next (sessionReturn r s)

/-- The host's timeoutMs runs out (rules R206, R233, R240): a waiting operation issues RXSTOP instead of polling on. -/
def sessionDeadline (s : State) : State :=
  match s.session.todo with
  | .poll :: rest => sessionGo (.access (command 0x00#8 0x05#8) :: rest) s
  | _ => s

end Sys2Proof.Machine
end

