-- ==== Sys2Proof/Machine/Events.lean ====
section
/-! DEFINITION. Serving one event, whole (rules R70, R74, R275). -/

namespace Sys2Proof.Machine

/-- Wire bytes the channel delivers back to back: a symbol runs as that symbol, other bytes one by one (rules R35, R205). -/
def serveWire (bs : List Byte) (s : State) : Res :=
  match decode (.wire bs) with
  | .ok i => exec i s
  | .error _ => collectAll bs s

/-- One event. The reset line is one event too, whatever the time it is held (DESIGN CHOICE, log entry 19). -/
def serve (e : Input) (s : State) : Res :=
  match e with
  | .host a => hostAccess a s
  | .rxByte b => exec (.rxbyte b) s
  | .wire bs => serveWire bs s
  | .hardReset => .next (hardwareReset s)
  | .call c => sessionCall c s
  | .turn => sessionTurn s
  | .deadline => .next (sessionDeadline s)

/-- The event that carries an instruction to the block. -/
def inputOf : Code → Input
  | .cmd w => .host (.regWrite 0 (.half w))
  | .wire bs => .wire bs
  | .event b => .rxByte b

end Sys2Proof.Machine
end

