-- ==== Sys2Proof/Machine/Step.lean ====
section
/-! DEFINITION. One step: the next event is served whole; with none the block waits and nothing changes (rules R70, R74). -/

namespace Sys2Proof.Machine

/-- One step of the machine. -/
def step (s : State) : Host.Outcome State Fault Refusal :=
  match s.inputs with
  | [] => .next s
  | e :: rest => serve e { s with inputs := rest }

/-- The state with the instruction of a table row's bits as the next event: a command word as the host's write of CMD,
wire bytes and the received byte as the channel's. Log entry 4. -/
def State.withFetchWord (s : State) (nbits w : Nat) : State :=
  match tableCode nbits w with
  | none => s
  | some c => { s with inputs := inputOf c :: s.inputs }

end Sys2Proof.Machine
end

