-- ==== Sys2Proof/Machine/Codec.lean ====
section
/-! DEFINITION. The codec state machines as rules R151 and R172 tabulate them, one row a step. The host cannot tell them
from the whole operations (rule R70); exec runs the whole operations, and the obligations state that the two agree. -/

namespace Sys2Proof.Machine

/-! ## The encoder (rule R151) -/

/-- One row of R151's table. In E_IDLE it is the row "on ENCODE". -/
def encStep (s : State) : Res :=
  match s.encst with
  | .idle =>
    andThen (emit Config.delim { s with txwlen := 0, csacc := 0 }) fun t => .next { t with encst := .adr }
  | .adr => andThen (encodeByte s.txadr s) fun t => .next { t with encst := .cmd }
  | .cmd => andThen (encodeByte s.txcmd s) fun t => .next { t with encst := .len }
  | .len =>
    andThen (encodeByte s.txlen s) fun t =>
      .next { t with pi := 0, encst := if 0 < t.txlen.toNat then .data else .chk }
  | .data =>
    fetchByte .txpay s.pi.toNat s fun p =>
      andThen (encodeByte p s) fun t =>
        .next { t with pi := t.pi + 1, encst := if (t.pi + 1).toNat < t.txlen.toNat then .data else .chk }
  | .chk => andThen (emitEsc (~~~ s.csacc) s) fun t => .next { t with encst := .eof }
  | .eof => andThen (emit Config.delim s) fun t => .next (encodeEnd t)

/-- `n` steps of the encoder. -/
def encSteps : Nat → State → Res
  | 0, s => .next s
  | n + 1, s => andThen (encStep s) (encSteps n)

/-! ## The decoder (rule R172) -/

/-- One row of R172's table. In D_IDLE it is the row "on DECODE". -/
def decStep (s : State) : Res :=
  match s.decst with
  | .idle =>
    if decodeRefused s then .next (raise .illegalOp s) else .next { decodeStart s with decst := .hdr }
  | .hdr => decodeHeader s fun t => .next { t with rd := 1, wr := 0, decst := .scan }
  | .scan =>
    if s.rd.toNat + 2 ≤ s.rxlen.toNat then
      fetchByte .rxb s.rd.toNat s fun b =>
        if b = Config.delim then .next (raiseDecode .frameError s)
        else if b = Config.esc then .next { s with rd := s.rd + 1, decst := .esc }
        else scanPut b s
    else .next { s with rxusz := s.wr, decst := .len }
  | .esc =>
    andThen (scanFollower s) fun t => .next (if t.decst = .esc then { t with decst := .scan } else t)
  | .len =>
    fetchByte .rxb 2 s fun l =>
      if lengthMatches l s.wr then .next { s with rd := 0, decst := .sum } else .next (raiseDecode .frameError s)
  | .sum =>
    if s.rd.toNat + 2 ≤ s.wr.toNat then
      fetchByte .rxb s.rd.toNat s fun b => .next { accumulate b s with rd := s.rd + 1 }
    else compareChecksum s

/-- The decoder from the state it stands in until it is idle again, at most `n` steps. -/
def decUntilIdle : Nat → State → Res
  | 0, s => .next s
  | n + 1, s => if s.decst = .idle then .next s else andThen (decStep s) (decUntilIdle n)

/-- DECODE by the state machine: the row of D_IDLE, then until idle. -/
def decMachine (n : Nat) (s : State) : Res := andThen (decStep s) (decUntilIdle n)

end Sys2Proof.Machine
end

