-- ==== Sys2Proof/Safety.lean ====
section
/-! DEFINITION. What is true of every state a run reaches, in the terms the statements use. -/

namespace Sys2Proof.Machine

/-- Between operations ENCST and DECST are idle (rule R40). -/
abbrev CodecIdle (s : State) : Prop := s.encst = .idle ∧ s.decst = .idle

/-- The buffers are canonical and hold nothing outside their spaces (rules R30, R46, R73). -/
abbrev BuffersInBounds (s : State) : Prop :=
  ∀ sp : Space, Memory.wf (s.mem sp) ∧ ∀ c ∈ s.mem sp, c.1 < sp.size

/-- An armed collection: room for a byte, fewer than two delimiters stored, and DCNT their number (rules R26, R40, R204). -/
def CollectionOpen (s : State) : Prop :=
  s.rxlen.toNat < Config.rxCap ∧ s.dcnt.toNat < 2 ∧ s.rxdone = false ∧ s.rxvalid = false ∧
  ∃ bs : List Byte, Memory.readRange s.rxb 0 s.rxlen.toNat = some bs ∧ s.dcnt.toNat = bs.count Config.delim

/-- TXW[0..TXWLEN) is a complete wire frame (rules R22, R25, R32). -/
def FrameInTxw (s : State) : Prop :=
  ∃ (a c : Byte) (p : List Byte), p.length ≤ Config.maxPay ∧
    Memory.readRange s.txw 0 s.txwlen.toNat = some (stuff a c p)

/-- RXADR, RXCMD, RXPLEN and RXB[0..RXUSZ) are the decoded frame (rules R22, R28, R33). -/
def FrameInRxb (s : State) : Prop :=
  ∃ p : List Byte, p.length = s.rxplen.toNat ∧ s.rxusz.toNat = p.length + Config.ovh ∧
    Memory.readRange s.rxb 0 s.rxusz.toNat = some (logicalBody s.rxadr s.rxcmd p)

/-- The invariant of the block. -/
structure Inv (s : State) : Prop where
  codecIdle : CodecIdle s
  buffers : BuffersInBounds s
  /-- ERR never holds a session kind (rules R23, R267) -/
  errOfBlock : s.err ≠ .unsupportedCommand ∧ s.err ≠ .dataError
  armed : s.rxarmed = true → CollectionOpen s
  /-- RXOVF only after a collection has ended (rule R22) -/
  overflow : s.rxovf = true → s.rxdone = true
  txFrame : s.txrdy = true → FrameInTxw s
  /-- TXWLEN is 0 until an ENCODE (rules R25, R45) -/
  noFrame : s.txrdy = false → s.txwlen = 0
  rxFrame : s.rxvalid = true → FrameInRxb s

/-- Step 1's tests pass (rule R173). -/
def headerOk (raw : List Byte) : Bool :=
  decide (Config.minLen ≤ raw.length) && raw.head? == some Config.delim && raw.getLast? == some Config.delim

/-- A byte with bit k inverted. -/
def flipBit (b : Byte) (k : Nat) : Byte := b ^^^ (1#8 <<< k)

/-- The access is a write of CMD, the one access that starts an operation (rules R21, R71). -/
def Access.isCommandWrite : Access → Bool
  | .regWrite 0 _ => true
  | .regWrite _ _ => false
  | .regRead _ => false
  | .bufRead _ _ => false
  | .bufWrite _ _ _ => false

/-- The session never writes outside the caller's buffer (rules R237, R238). -/
def CallerBufferSafe (s : State) : Prop :=
  (∀ c ∈ s.session.resp, c.1 < s.session.capacity) ∧
  ∀ i n : Nat, HostAct.copy i n ∈ s.session.todo → n ≤ s.session.capacity

/-- The received byte an input is, if it is one. -/
def Input.receivedByte : Input → Option Byte
  | .rxByte b => some b
  | .host _ => none
  | .wire _ => none
  | .hardReset => none
  | .call _ => none
  | .turn => none
  | .deadline => none

/-- Inputs that are turns of the session and received bytes only. -/
abbrev TurnsAndBytes (mid : List Input) : Prop := ∀ e ∈ mid, e = .turn ∨ ∃ b : Byte, e = .rxByte b

/-- The bytes a list of inputs delivers, in order. -/
def receivedBytes (mid : List Input) : List Byte := mid.filterMap Input.receivedByte

/-- A collection that starts empty gathers these bytes and goes on (rule R204). -/
abbrev StaysOpen (bs : List Byte) : Prop := bs.count Config.delim < 2 ∧ bs.length < Config.rxCap

/-- A collection that starts empty gathers `bs` and closes on the byte `b` after them, on the second delimiter or because
RXB is full (rule R204). -/
abbrev ClosesOn (bs : List Byte) (b : Byte) : Prop :=
  StaysOpen bs ∧ ((bs ++ [b]).count Config.delim = 2 ∨ bs.length + 1 = Config.rxCap)

/-- Step 1 fails on bytes it can read (rule R173): too short, or a first or a last byte that is no delimiter. -/
def HeaderFails (s : State) : Prop :=
  s.rxlen.toNat < Config.minLen ∨
  (∃ b : Byte, Memory.read s.rxb 0 = some b ∧ b ≠ Config.delim) ∨
  (Memory.read s.rxb 0 = some Config.delim ∧ ∃ b : Byte, Memory.read s.rxb (s.rxlen.toNat - 1) = some b ∧ b ≠ Config.delim)

/-- Step 1 passes. -/
abbrev HeaderPasses (s : State) : Prop :=
  Config.minLen ≤ s.rxlen.toNat ∧ Memory.read s.rxb 0 = some Config.delim ∧
  Memory.read s.rxb (s.rxlen.toNat - 1) = some Config.delim

/-- The first k body bytes, from index 1 on, are `pre`. -/
abbrev BodyBegins (s : State) (pre : List Byte) : Prop :=
  pre.length + 2 ≤ s.rxlen.toNat ∧ Memory.readRange s.rxb 1 pre.length = some pre

/-- The scan over the first body bytes, whatever follows: a marker that stands last is not judged yet, so that the byte put
after them is a code. -/
def scanPrefix (pre : List Byte) : Except ErrorKind (List Byte) := unescape (pre ++ [0x31#8])

end Sys2Proof.Machine
end

