-- ==== Sys2Proof/Certificates/Slice0/Obligations.lean ====
section
/-! DEFINITION. The statements about the model, OBLIGATIONS.json lists them. A statement that a meaning answers
`.next { s with … }` gives the whole effect and the whole frame: every field not named is as before. -/

open Sys2Proof Sys2Proof.Machine

/-! ## Reset -/

/-- R290, R291, with the values of R20 and R45: every register, flag and hidden register after hardware reset, no
buffer byte with a value, an empty TXS; and the reset line brings any state there (the fields that stay are the model's
own and no storage of the block, and that they stay is the model's choice: log entries 1, 2, 5, 6, 7; the line as one
event: log entry 19). -/
def Obligations.ResetGivesEveryElementItsValue : Prop :=
  (∀ n, 1 ≤ n → n ≤ 12 → regIsWide n = false → regValue n State.reset = some (.byte 0)) ∧
  (∀ n, n ≤ 12 → regIsWide n = true → regValue n State.reset = some (.half 0)) ∧
  regValue 13 State.reset = some (.byte 0xFF#8) ∧
  (∀ sp i, Memory.read (State.reset.mem sp) i = none) ∧ State.reset.txs = [] ∧
  CodecIdle State.reset ∧ State.reset.pi = 0 ∧ State.reset.rd = 0 ∧ State.reset.wr = 0 ∧ State.reset.dcnt = 0 ∧
  (∀ (s : State) (rest : List Input), s.inputs = .hardReset :: rest →
    step s = .next { State.reset with
      inputs := rest, answers := s.answers, draws := s.draws, freeCtr := s.freeCtr, portLog := s.portLog,
      session := s.session })

/-- R251: RESET leaves what hardware reset leaves, except that TXS keeps the bytes already sent (the other fields that
stay are the model's own, and that they stay is the model's choice: log entries 1, 2, 5, 6, 7). -/
def Obligations.ResetCommandKeepsTxs : Prop :=
  (∀ w : Word, opcodeOf w = 0x09#8 → decodeCmd w = .reset) ∧
  ∀ s : State, exec .reset s = .next { State.reset with
    txs := s.txs, inputs := s.inputs, answers := s.answers, draws := s.draws, freeCtr := s.freeCtr,
    portLog := s.portLog, session := s.session }

/-- The reset state meets the invariant of the block (derived from R45, R46). That it meets CallerBufferSafe rests on the
session's start, which the spec does not give: the model's choice, log entry 7. -/
def Obligations.ResetMeetsBlockInvariant : Prop := Inv State.reset ∧ CallerBufferSafe State.reset

/-! ## The step -/

/-- Every step keeps the invariant: canonical buffers inside their spaces, an idle codec between operations, DCNT the
number of delimiters gathered, TXRDY only with a complete wire frame in TXW, RXVALID only with the decoded frame in RXB,
ERR never a session kind (rules R22, R23, R25, R26, R28, R32, R33, R40, R73, R204, R267). -/
def Obligations.EveryStepKeepsBlockInvariant : Prop :=
  ∀ s t : State, Inv s → step s = .next t → Inv t

/-- A step whose next input carries an instruction runs exactly that instruction; with no input nothing happens (rules
R2, R21, R70; the queue of inputs is the model's, log entry 5). -/
def Obligations.StepRunsTheDecodedInstruction : Prop :=
  (∀ (s : State) (c : Code) (i : Instr) (rest : List Input),
    decode c = .ok i → s.inputs = inputOf c :: rest → step s = exec i { s with inputs := rest }) ∧
  ∀ s : State, s.inputs = [] → step s = .next s

/-! ## Encodings -/

/-- Words written out from the spec's encodings decode to what they stand for (R96 to R101, R110, R113). -/
def Obligations.SpecWordsDecode : Prop :=
  decode (.cmd 0x0001#16) = .ok .encode ∧ decode (.cmd 0x1108#16) = .ok (.csadd 0x11#8) ∧
  decode (.cmd 0x0004#16) = .ok .rxarm ∧ decode (.cmd 0x0009#16) = .ok .reset ∧
  decode (.cmd 0x550A#16) = .ok (.reserved 0x0A#8) ∧ decode (.cmd 0xAB01#16) = .ok .encode ∧
  decode (.wire [0x7E#8]) = .ok .delim ∧ decode (.wire [0x7D#8, 0x5E#8]) = .ok .esc7e ∧
  decode (.wire [0x31#8]) = .ok (.lit 0x31#8)

/-- Decoding an encoded well-formed instruction gives it back, and a sequence of wire symbols is recovered from its bytes
(R103: the first byte alone tells the length). -/
def Obligations.DecodeInvertsEncode : Prop :=
  (∀ i : Instr, WellFormed i → decode (encode i) = .ok i) ∧
  ∀ is : List Instr, (∀ i ∈ is, WellFormed i ∧ i.isWire = true) →
    decodeStream is.length (is.flatMap wireBytes) = .ok is

/-- Rule R112: for every opcode but CSADD's, imm8 changes neither the instruction nor what the write of CMD does. -/
def Obligations.OnlyCsaddReadsTheImmediate : Prop :=
  ∀ (w v : Word) (s : State), opcodeOf w = opcodeOf v → opcodeOf w ≠ 0x08#8 →
    decodeCmd w = decodeCmd v ∧ hostAccess (.regWrite 0 (.half w)) s = hostAccess (.regWrite 0 (.half v)) s

/-- Rule R95: esc and unesc on all 256 bytes, with no value of unesc off the four codes. -/
def Obligations.EscapeTableIsAsSpecified : Prop :=
  esc 0x11#8 = [0x7D#8, 0x31#8] ∧ esc 0x13#8 = [0x7D#8, 0x33#8] ∧ esc 0x7D#8 = [0x7D#8, 0x5D#8] ∧
  esc 0x7E#8 = [0x7D#8, 0x5E#8] ∧
  (∀ b : Byte, b ≠ 0x11#8 → b ≠ 0x13#8 → b ≠ 0x7D#8 → b ≠ 0x7E#8 → esc b = [b]) ∧
  unesc 0x31#8 = some 0x11#8 ∧ unesc 0x33#8 = some 0x13#8 ∧ unesc 0x5D#8 = some 0x7D#8 ∧ unesc 0x5E#8 = some 0x7E#8 ∧
  ∀ f : Byte, f ≠ 0x31#8 → f ≠ 0x33#8 → f ≠ 0x5D#8 → f ≠ 0x5E#8 → unesc f = none

/-! ## System commands -/

/-- Rule R250: NOP changes nothing, ERR included, whatever imm8. -/
def Obligations.NopChangesNothing : Prop :=
  (∀ w : Word, opcodeOf w = 0x00#8 → decodeCmd w = .nop) ∧ ∀ s : State, exec .nop s = .next s

/-- Rule R111: a write of CMD with opcode 0x0A to 0xFF sets ERR to IllegalOp and changes nothing else. -/
def Obligations.ReservedOpcodesOnlySetIllegalOp : Prop :=
  ∀ (w : Word) (s : State), 0x0A ≤ (opcodeOf w).toNat → CodecIdle s →
    decodeCmd w = .reserved (opcodeOf w) ∧
    hostAccess (.regWrite 0 (.half w)) s = .next { s with err := .illegalOp } ∧
    exec (.reserved (opcodeOf w)) s = .next { s with err := .illegalOp }

/-! ## The Checksum Engine -/

/-- Rule R133: CSCLR clears CSACC, sets ERR to None, touches nothing else; CSACC then reads 00 and CSOUT FF. -/
def Obligations.CsclrClearsTheAccumulator : Prop :=
  (∀ w : Word, opcodeOf w = 0x07#8 → decodeCmd w = .csclr) ∧
  ∀ s : State, ∃ t : State, exec .csclr s = .next t ∧ t = { s with csacc := 0x00#8, err := .none } ∧
    regValue 12 t = some (.byte 0x00#8) ∧ regValue 13 t = some (.byte 0xFF#8)

/-- Rule R134: CSADD adds imm8 mod 256, the carry dropped, and touches nothing else. -/
def Obligations.CsaddAddsModulo256 : Prop :=
  (∀ w : Word, opcodeOf w = 0x08#8 → decodeCmd w = .csadd (immOf w)) ∧
  ∀ (imm : Byte) (s : State), exec (.csadd imm) s =
    .next { s with csacc := BitVec.ofNat 8 ((s.csacc.toNat + imm.toNat) % 256), err := .none }

/-- Rule R130: the checksum is 255 minus the sum of the bytes as unsigned integers mod 256, that sum xor 0xFF, and
D0's worked example. -/
def Obligations.ChecksumIsComplementOfModularSum : Prop :=
  (∀ bs : List Byte,
    (checksum bs).toNat = 255 - (bs.map BitVec.toNat).sum % 256 ∧
    checksum bs = BitVec.ofNat 8 ((bs.map BitVec.toNat).sum % 256) ^^^ 0xFF#8) ∧
  checksum [0x00#8, 0x11#8, 0x00#8] = 0xEE#8

/-- Rule R132: the laws (a) to (f) of the checksum. -/
def Obligations.ChecksumLaws : Prop :=
  checksum [] = 0xFF#8 ∧
  (∀ l m : List Byte, l.Perm m → checksum l = checksum m) ∧
  (∀ (l : List Byte) (b : Byte), checksum (l ++ [b]) = checksum l - b) ∧
  (∀ (l : List Byte) (c : Byte), c = checksum l ↔ sumBytes (l ++ [c]) = 0xFF#8) ∧
  (∀ (l m : List Byte) (b : Byte) (k : Nat), k < 8 →
    (sumBytes (l ++ flipBit b k :: m) = sumBytes (l ++ b :: m) + (1#8 <<< k) ∨
      sumBytes (l ++ flipBit b k :: m) = sumBytes (l ++ b :: m) - (1#8 <<< k)) ∧
    checksum (l ++ flipBit b k :: m) ≠ checksum (l ++ b :: m)) ∧
  (∀ l m : List Byte, (m.map BitVec.toNat).sum % 256 = 0 → checksum (l ++ m) = checksum l) ∧
  ∀ l : List Byte, checksum (l ++ List.replicate 256 0x00#8) = checksum l

/-- R135, R136: the host's checksum(bytes) sequence, of any length, ends with the checksum read from CSOUT. That the value is
appended to portLog, the trace of returned values, is the model's choice, log entry 6. -/
def Obligations.HostChecksumSequenceReadsTheChecksum : Prop :=
  ∀ (bs : List Byte) (s : State), hostProgram (checksumProgram bs) s =
    .next { s with
      csacc := sumBytes bs, err := .none, portLog := s.portLog ++ [.byte (checksum bs)] }

/-! ## ENCODE -/

/-- Rule R150 with R153: with its payload written, ENCODE completes, puts `stuff` of its operands at TXW[0..TXWLEN),
leaves every other byte of TXW, and writes TXWLEN, CSACC, TXRDY, ERR and the hidden PI and ENCST alone. -/
def Obligations.EncodeBuildsTheWireFrame : Prop :=
  (∀ w : Word, opcodeOf w = 0x01#8 → decodeCmd w = .encode) ∧
  ∀ (s : State) (p : List Byte), Memory.readRange s.txpay 0 s.txlen.toNat = some p →
    ∃ t : State, exec .encode s = .next t ∧
      t = { s with
        txw := t.txw, txwlen := BitVec.ofNat 16 (stuff s.txadr s.txcmd p).length
        csacc := sumBytes (logicalFields s.txadr s.txcmd p), txrdy := true, err := .none
        pi := s.txlen, encst := .idle } ∧
      ∀ i : Nat, Memory.read t.txw i =
        if i < (stuff s.txadr s.txcmd p).length then (stuff s.txadr s.txcmd p)[i]? else Memory.read s.txw i

/-- A payload byte below TXLEN that nothing has written makes ENCODE the host-program fault (R46, R154, U4). -/
def Obligations.EncodeOfUnwrittenPayloadFaults : Prop :=
  ∀ s : State, Memory.readRange s.txpay 0 s.txlen.toNat = none → exec .encode s = .fault .unwrittenByte

/-- Rule R155: in TXW[0..TXWLEN) after ENCODE the byte 7E stands at the first and the last index and nowhere else, 7D
only before one of the four codes, 11 and 13 not at all. -/
def Obligations.EncodedFrameIsProperlyEscaped : Prop :=
  ∀ (s : State) (p : List Byte), Memory.readRange s.txpay 0 s.txlen.toNat = some p →
    ∃ t : State, exec .encode s = .next t ∧ ∀ i : Nat, i < t.txwlen.toNat →
      (Memory.read t.txw i = some 0x7E#8 ↔ i = 0 ∨ i = t.txwlen.toNat - 1) ∧
      (Memory.read t.txw i = some 0x7D#8 → i + 1 < t.txwlen.toNat ∧
        ∃ f ∈ [0x31#8, 0x33#8, 0x5D#8, 0x5E#8], Memory.read t.txw (i + 1) = some f) ∧
      Memory.read t.txw i ≠ some 0x11#8 ∧ Memory.read t.txw i ≠ some 0x13#8

/-- Rule R158: TXWLEN after ENCODE is 2 + (TXLEN + 4) + S, S the special bytes of the logical body; it lies in 6..519,
both ends are reached, and a special length byte keeps it within 262. -/
def Obligations.EncodedLengthFormulaAndBounds : Prop :=
  (∀ (s : State) (p : List Byte), Memory.readRange s.txpay 0 s.txlen.toNat = some p →
    ∃ t : State, exec .encode s = .next t ∧
      t.txwlen.toNat = 2 + (s.txlen.toNat + 4) + (logicalBody s.txadr s.txcmd p).countP special ∧
      6 ≤ t.txwlen.toNat ∧ t.txwlen.toNat ≤ 519 ∧ (special s.txlen = true → t.txwlen.toNat ≤ 262)) ∧
  (∀ a c : Byte, (stuff a c []).length = 6 ↔
    special a = false ∧ special c = false ∧ special (checksum (logicalFields a c [])) = false) ∧
  stuff 0x00#8 0x00#8 [] = [0x7E#8, 0x00#8, 0x00#8, 0x00#8, 0xFF#8, 0x7E#8] ∧
  (stuff 0x7E#8 0x7E#8 (List.replicate 3 0x7E#8 ++ List.replicate 252 0x7D#8)).length = 519

/-- ENCODE run twice on unchanged operands leaves exactly the same state (R71, R150). -/
def Obligations.EncodeIsIdempotent : Prop :=
  ∀ (s : State) (p : List Byte), Memory.wf s.txw → Memory.readRange s.txpay 0 s.txlen.toNat = some p →
    ∃ t : State, exec .encode s = .next t ∧ exec .encode t = .next t

/-- The encoder state machine of R151, TXLEN + 6 steps from E_IDLE, and the whole operation ENCODE agree on every state,
faults included (R151, R153). -/
def Obligations.EncoderStateMachineAgrees : Prop :=
  ∀ s : State, s.encst = .idle → encSteps (s.txlen.toNat + 6) s = exec .encode s

/-! ## DECODE -/

/-- Rule R171: DECODE while armed or with RXLEN above RXCAP sets ERR to IllegalOp and changes nothing else; in every other
state, RXDONE set or not, it does not end in IllegalOp. -/
def Obligations.DecodeRefusedPreconditions : Prop :=
  (∀ s : State, CodecIdle s → (s.rxarmed = true ∨ 522 < s.rxlen.toNat) →
    exec .decode s = .next { s with err := .illegalOp }) ∧
  ∀ s t : State, s.rxarmed = false → s.rxlen.toNat ≤ 522 → exec .decode s = .next t → t.err ≠ .illegalOp

/-- R170, R180, R185, R187: on a received buffer the function `unstuff` accepts, DECODE completes: ERR None, RXVALID, the
result registers and RXUSZ written, the logical body at RXB[0..RXUSZ), every byte from RXUSZ on as before, CSACC the sum
of the fields, everything else but the cursors unchanged. -/
def Obligations.DecodeOfAcceptedBuffer : Prop :=
  (∀ w : Word, opcodeOf w = 0x02#8 → decodeCmd w = .decode) ∧
  ∀ (s : State) (raw : List Byte) (a c n : Byte) (p : List Byte),
    s.rxarmed = false → s.rxlen.toNat ≤ 522 → Memory.readRange s.rxb 0 s.rxlen.toNat = some raw →
    unstuff raw = .ok (a, c, n, p) →
    p.length = n.toNat ∧
    ∃ t : State, exec .decode s = .next t ∧
      t = { s with
        rxb := t.rxb, err := .none, rxvalid := true, rxadr := a, rxcmd := c, rxplen := n
        rxusz := BitVec.ofNat 16 (p.length + 4), csacc := sumBytes (logicalFields a c p)
        rd := BitVec.ofNat 16 (p.length + 3), wr := BitVec.ofNat 16 (p.length + 4), decst := .idle } ∧
      ∀ i : Nat, Memory.read t.rxb i =
        if i < p.length + 4 then (logicalBody a c p)[i]? else Memory.read s.rxb i

/-- R181, R272: a failed DECODE (other than IllegalOp) leaves the code in ERR, RXVALID 0, RXADR, RXCMD, RXPLEN and RXLEN as
they were, RXUSZ 0 before the scan has ended and the logical size after, CSACC 00 before step 4 and the recomputed sum
in it, and RXB[0..RXLEN) unspecified: free bytes, one for each index. Bytes from RXLEN on and everything else, but the
cursors and the free-value counter, are unchanged. R173, R266: what fails before a byte without a value is reached fails
the same: in step 1, with FrameError and the cursors as they were, or in the scan over the body bytes before it. R46: a
DECODE that reaches such a byte, as the first, the last or a body byte, faults. The free bytes (freeByte, freeCtr) are
the model's choice, log entry 1. -/
def Obligations.FailedDecodeEffects : Prop :=
  (∀ (s : State) (raw : List Byte) (e : ErrorKind),
    s.rxarmed = false → s.rxlen.toNat ≤ 522 → Memory.readRange s.rxb 0 s.rxlen.toNat = some raw →
    unstuff raw = .error e →
    ∃ t : State, exec .decode s = .next t ∧
      t = { s with
        rxb := t.rxb, err := e, rxvalid := false, rxusz := t.rxusz, csacc := t.csacc
        rd := t.rd, wr := t.wr, encst := .idle, decst := .idle, freeCtr := s.freeCtr + s.rxlen.toNat } ∧
      (headerOk raw = false → t.rxusz = 0 ∧ t.csacc = 0) ∧
      (headerOk raw = true → ∀ x : ErrorKind, unescape raw.tail = .error x → t.rxusz = 0 ∧ t.csacc = 0) ∧
      (headerOk raw = true → ∀ l : List Byte, unescape raw.tail = .ok l → t.rxusz.toNat = l.length ∧
        t.csacc = if e = .checksumMismatch then sumBytes l.dropLast else 0) ∧
      ∀ i : Nat, Memory.read t.rxb i =
        if i < s.rxlen.toNat then some (Config.freeByte (s.freeCtr + i)) else Memory.read s.rxb i) ∧
  (∀ s : State, s.rxarmed = false → s.rxlen.toNat ≤ 522 → HeaderFails s →
    ∃ t : State, exec .decode s = .next t ∧
      t = { s with
        rxb := t.rxb, err := .frameError, rxvalid := false, rxusz := 0, csacc := 0
        encst := .idle, decst := .idle, freeCtr := s.freeCtr + s.rxlen.toNat } ∧
      ∀ i : Nat, Memory.read t.rxb i =
        if i < s.rxlen.toNat then some (Config.freeByte (s.freeCtr + i)) else Memory.read s.rxb i) ∧
  (∀ (s : State) (pre : List Byte) (e : ErrorKind),
    s.rxarmed = false → s.rxlen.toNat ≤ 522 → HeaderPasses s → BodyBegins s pre → scanPrefix pre = .error e →
    ∃ t : State, exec .decode s = .next t ∧
      t = { s with
        rxb := t.rxb, err := e, rxvalid := false, rxusz := 0, csacc := 0
        rd := t.rd, wr := t.wr, encst := .idle, decst := .idle, freeCtr := s.freeCtr + s.rxlen.toNat } ∧
      ∀ i : Nat, Memory.read t.rxb i =
        if i < s.rxlen.toNat then some (Config.freeByte (s.freeCtr + i)) else Memory.read s.rxb i) ∧
  (∀ s : State, s.rxarmed = false → 6 ≤ s.rxlen.toNat → s.rxlen.toNat ≤ 522 →
    (Memory.read s.rxb 0 = none ∨
      (Memory.read s.rxb 0 = some 0x7E#8 ∧ Memory.read s.rxb (s.rxlen.toNat - 1) = none)) →
    exec .decode s = .fault .unwrittenByte) ∧
  ∀ (s : State) (pre l : List Byte),
    s.rxarmed = false → s.rxlen.toNat ≤ 522 → HeaderPasses s → BodyBegins s pre → scanPrefix pre = .ok l →
    Memory.read s.rxb (1 + pre.length) = none → exec .decode s = .fault .unwrittenByte

/-- `unstuff` errs with the decoder's three kinds only, and in the order of R173 to R179 and R266: too short, first byte,
last byte, the scan in index order, the length, the checksum. -/
def Obligations.DecodeTestsInFixedOrder : Prop :=
  ∀ raw : List Byte,
    (headerOk raw = false → unstuff raw = .error .frameError) ∧
    (headerOk raw = true → ∀ e : ErrorKind, unescape raw.tail = .error e → unstuff raw = .error e) ∧
    (headerOk raw = true → ∀ l : List Byte, unescape raw.tail = .ok l →
      (∀ n : Byte, l[2]? = some n → n.toNat + 4 ≠ l.length → unstuff raw = .error .frameError) ∧
      (l.length < 3 → unstuff raw = .error .frameError) ∧
      (∀ (a c n : Byte) (p : List Byte) (x : Byte), l = a :: c :: n :: (p ++ [x]) → n.toNat = p.length →
        unstuff raw = if x = checksum (a :: c :: n :: p) then .ok (a, c, n, p) else .error .checksumMismatch)) ∧
    ∀ e : ErrorKind, unstuff raw = .error e →
      e = .frameError ∨ e = .unknownEscapeCode ∨ e = .checksumMismatch

/-- The decoder state machine of R172, run from D_IDLE until idle, and the whole operation DECODE agree on every state,
faults included, with any bound of at least 2 RXLEN + 4 steps (R172, R187). -/
def Obligations.DecoderStateMachineAgrees : Prop :=
  ∀ (s : State) (k : Nat), s.decst = .idle → 2 * s.rxlen.toNat + 4 ≤ k → decMachine k s = exec .decode s

/-- R187: `unstuff` inverts `stuff` for every address, command and payload of up to 255 bytes. -/
def Obligations.UnstuffInvertsStuff : Prop :=
  ∀ (a c : Byte) (p : List Byte), p.length ≤ 255 →
    unstuff (stuff a c p) = .ok (a, c, BitVec.ofNat 8 p.length, p)

/-- Rule R156, the round-trip law in the block's terms: ENCODE, TXW[0..TXWLEN) written to RXB and TXWLEN to RXLEN over
the port, DECODE. -/
def Obligations.RoundTripThroughTheBlock : Prop :=
  ∀ (s : State) (p : List Byte), s.rxarmed = false → Memory.readRange s.txpay 0 s.txlen.toNat = some p →
    ∃ (t : State) (frame : List Byte) (u : State),
      exec .encode s = .next t ∧ Memory.readRange t.txw 0 t.txwlen.toNat = some frame ∧
      hostProgram (loadRxb 0 t.txwlen frame ++ [command 0x00#8 0x02#8]) t = .next u ∧
      u.err = .none ∧ u.rxvalid = true ∧ u.rxadr = s.txadr ∧ u.rxcmd = s.txcmd ∧ u.rxplen = s.txlen ∧
      Memory.readRange u.rxb 3 u.rxplen.toNat = some p ∧ u.rxusz.toNat = s.txlen.toNat + 4

/-- R188: a single-bit flip strictly inside an encoder-built frame never decodes. In a byte that carries a logical byte
unescaped, if the new value is neither 7D nor 7E: in the length byte the result is FrameError, in any other field
ChecksumMismatch. -/
def Obligations.SingleBitFlipNeverDecodes : Prop :=
  (∀ (a c : Byte) (p : List Byte) (i k : Nat) (b : Byte), p.length ≤ 255 → k < 8 → 0 < i →
    i + 1 < (stuff a c p).length → (stuff a c p)[i]? = some b →
    ∃ e : ErrorKind, unstuff ((stuff a c p).set i (flipBit b k)) = .error e) ∧
  ∀ (a c : Byte) (p pre post : List Byte) (b : Byte) (k : Nat), p.length ≤ 255 → k < 8 →
    logicalBody a c p = pre ++ b :: post → special b = false → flipBit b k ≠ 0x7D#8 → flipBit b k ≠ 0x7E#8 →
    unstuff (0x7E#8 :: (escapeAll pre ++ flipBit b k :: (escapeAll post ++ [0x7E#8]))) =
      .error (if pre.length = 2 then .frameError else .checksumMismatch)

/-- Rule R189: a received buffer with a marker in its body whose follower is none of the four codes makes DECODE end in
FrameError or UnknownEscapeCode, RXVALID clear and no result register written. -/
def Obligations.UnknownEscapeNeverDecodes : Prop :=
  ∀ (s : State) (raw : List Byte) (i : Nat) (f : Byte),
    s.rxarmed = false → s.rxlen.toNat ≤ 522 → Memory.readRange s.rxb 0 s.rxlen.toNat = some raw →
    1 ≤ i → i + 2 ≤ raw.length → raw[i]? = some 0x7D#8 → raw[i + 1]? = some f →
    f ∉ [0x31#8, 0x33#8, 0x5D#8, 0x5E#8] →
    ∃ t : State, exec .decode s = .next t ∧ (t.err = .frameError ∨ t.err = .unknownEscapeCode) ∧
      t.rxvalid = false ∧ t.rxadr = s.rxadr ∧ t.rxcmd = s.rxcmd ∧ t.rxplen = s.rxplen

/-- The length test is the comparison of L + 4 and usz as numbers: no length byte wraps it (R138, R178). -/
def Obligations.LengthTestDoesNotWrap : Prop :=
  ∀ (l : Byte) (usz : Word), lengthMatches l usz = true ↔ l.toNat + 4 = usz.toNat

/-- R184 and R80: a scanning step that goes on keeps WR below RD and RD within the received bytes, and every byte from
the new RD on is still the received one. The premises are what step 1 and the steps before have established, the last
byte a delimiter among them. -/
def Obligations.ScanCursorsNeverCross : Prop :=
  ∀ s : State, s.decst = .scan → s.wr.toNat < s.rd.toNat → s.rd.toNat + 2 ≤ s.rxlen.toNat → s.rxlen.toNat ≤ 522 →
    Memory.readRange s.rxb 0 s.rxlen.toNat ≠ none → Memory.read s.rxb (s.rxlen.toNat - 1) = some 0x7E#8 →
    ∃ t : State, scanSymbol s = .next t ∧ (t.decst = .scan →
      t.wr.toNat = s.wr.toNat + 1 ∧ t.wr.toNat < t.rd.toNat ∧ t.rd.toNat + 1 ≤ t.rxlen.toNat ∧ t.rxlen = s.rxlen ∧
      ∀ i : Nat, t.rd.toNat ≤ i → Memory.read t.rxb i = Memory.read s.rxb i)

/-! ## The wire symbols -/

/-- R96 to R100 in the decoder (the symbol as an instruction of its own there is the model's choice, log entry 8): while the decoder scans, an escape pair or a literal writes the logical byte it stands
for at RXB[WR], moves WR by one and RD past its wire bytes, and touches nothing else. -/
def Obligations.WireSymbolsInTheScan : Prop :=
  ∀ (i : Instr) (raw : Byte) (s : State), rawOf i = some raw → s.decst = .scan → s.wr.toNat < 522 →
    exec i s = .next { s with
      rxb := Memory.write s.rxb s.wr.toNat raw, wr := s.wr + 1, rd := s.rd + BitVec.ofNat 16 (wireBytes i).length }

/-- R104, R176, R272: a delimiter in the scan completes with FrameError, both state machines idle and RXB[0..RXLEN)
unspecified, everything else unchanged. That DELIM is an instruction of its own in the scan is the model's choice, log
entry 8, and so are the free bytes, log entry 1. -/
def Obligations.StrayDelimiterInTheScan : Prop :=
  ∀ s : State, s.decst = .scan → ∃ t : State, exec .delim s = .next t ∧
    t = { s with
      rxb := t.rxb, err := .frameError, encst := .idle, decst := .idle, freeCtr := s.freeCtr + s.rxlen.toNat } ∧
    ∀ i : Nat, Memory.read t.rxb i =
      if i < s.rxlen.toNat then some (Config.freeByte (s.freeCtr + i)) else Memory.read s.rxb i

/-- R104, R105: DECODE's scan runs, at RD, exactly the wire symbol the bytes there decode to; a marker with a follower
that is no code is UnknownEscapeCode. That exec runs a wire symbol as an instruction of its own in the scan is the model's
choice, log entry 8. -/
def Obligations.ScanRunsTheDecodedSymbol : Prop :=
  ∀ (s : State) (b f : Byte), s.decst = .scan → s.rd.toNat + 2 ≤ s.rxlen.toNat → s.rxlen.toNat ≤ 522 →
    Memory.read s.rxb s.rd.toNat = some b → Memory.read s.rxb (s.rd.toNat + 1) = some f →
    (∀ (i : Instr) (rest : List Byte), decodeWire [b, f] = .ok (i, rest) → scanSymbol s = exec i s) ∧
    (∀ e : DecodeError, decodeWire [b, f] = .error e →
      scanSymbol s = .next (raiseDecode .unknownEscapeCode { s with rd := s.rd + 1 }))

/-- R96 to R101, R152 in the encoder (the same choice, log entry 8): while the encoder runs, every wire symbol appends its bytes to TXW, moves TXWLEN on
by as many, and touches nothing else. -/
def Obligations.WireSymbolsInTheEncoder : Prop :=
  ∀ (i : Instr) (s : State), i.isWire = true → s.encst ≠ .idle → s.decst ≠ .scan →
    s.txwlen.toNat + (wireBytes i).length ≤ 522 →
    ∃ t : State, exec i s = .next t ∧
      t = { s with txw := t.txw, txwlen := s.txwlen + BitVec.ofNat 16 (wireBytes i).length } ∧
      ∀ k : Nat, Memory.read t.txw k =
        if s.txwlen.toNat ≤ k ∧ k < s.txwlen.toNat + (wireBytes i).length
        then (wireBytes i)[k - s.txwlen.toNat]? else Memory.read s.txw k

/-- R205 outside the codec: the collector takes a wire symbol's bytes one after another and interprets none; while it is
not armed they are dropped. The block's whole reception is the model's unit of two bytes, log entry 8. -/
def Obligations.WireSymbolsOnTheChannel : Prop :=
  ∀ (i : Instr) (s : State), i.isWire = true → CodecIdle s → (s.rxarmed = true → s.rxlen.toNat < 522) →
    ∃ t : State, exec i s = .next t ∧ collectAll (wireBytes i) s = .next t ∧
      t = { s with
        rxb := t.rxb, rxlen := t.rxlen, dcnt := t.dcnt, rxarmed := t.rxarmed, rxdone := t.rxdone, rxovf := t.rxovf } ∧
      (s.rxarmed = false → t = s)

/-! ## The channel -/

/-- R200, with the channel's answer as R201 gives it: TXSEND before any ENCODE is IllegalOp and sends nothing; with
a frame, the first k bytes go out, TransportError if k is short, and nothing but TXS and ERR changes, and answers and
draws, which are the model's own and its choice, log entry 2. -/
def Obligations.TxsendSendsWhatTheChannelTakes : Prop :=
  (∀ w : Word, opcodeOf w = 0x03#8 → decodeCmd w = .txsend) ∧
  (∀ s : State, CodecIdle s → s.txrdy = false → exec .txsend s = .next { s with err := .illegalOp }) ∧
  (∀ (s : State) (frame : List Byte), CodecIdle s → s.txrdy = true →
    Memory.readRange s.txw 0 s.txwlen.toNat = some frame →
    exec .txsend s = .next { s with
      txs := s.txs ++ frame.take (channelAnswer s.txwlen.toNat s)
      err := if channelAnswer s.txwlen.toNat s < s.txwlen.toNat then .transportError else .none
      answers := s.answers.tail, draws := s.draws + 1 }) ∧
  (∀ (s : State) (m : Nat), channelAnswer m s ≤ m) ∧
  ∀ (s : State) (m k : Nat), k ≤ m → channelAnswer m { s with answers := [k] } = k

/-- R208: PRIME sends the raw byte FF if the channel takes it, else TransportError; TXW, TXWLEN, TXRDY, CSACC and
everything else stay, but for answers and draws, the model's own and its choice, log entry 2. -/
def Obligations.PrimeSendsOneRawByte : Prop :=
  (∀ w : Word, opcodeOf w = 0x06#8 → decodeCmd w = .prime) ∧
  ∀ s : State, CodecIdle s →
    (channelAnswer 1 s = 0 ∨ channelAnswer 1 s = 1) ∧
    exec .prime s = .next { s with
      txs := if channelAnswer 1 s = 1 then s.txs ++ [0xFF#8] else s.txs
      err := if channelAnswer 1 s = 1 then .none else .transportError
      answers := s.answers.tail, draws := s.draws + 1 }

/-- Rule R203: RXARM. -/
def Obligations.RxarmStartsACollection : Prop :=
  (∀ w : Word, opcodeOf w = 0x04#8 → decodeCmd w = .rxarm) ∧
  ∀ s : State, exec .rxarm s = .next { s with
    rxlen := 0, dcnt := 0, rxarmed := true, rxdone := false, rxovf := false, rxvalid := false, err := .none }

/-- Rule R206: RXSTOP closes an armed collection and otherwise only clears ERR. -/
def Obligations.RxstopEndsACollection : Prop :=
  (∀ w : Word, opcodeOf w = 0x05#8 → decodeCmd w = .rxstop) ∧
  ∀ s : State,
    (s.rxarmed = true → exec .rxstop s = .next { s with rxarmed := false, rxdone := true, err := .none }) ∧
    (s.rxarmed = false → exec .rxstop s = .next { s with err := .none })

/-- Rule R204: the received-byte event, unarmed and armed, with each way of closing; while armed there is room. -/
def Obligations.RxbyteStoresCountsAndCloses : Prop :=
  (∀ s : State, Inv s → s.rxarmed = true → s.rxlen.toNat < 522) ∧
  ∀ (b : Byte) (s : State),
    (s.rxarmed = false → exec (.rxbyte b) s = .next s) ∧
    (s.rxarmed = true → s.rxlen.toNat < 522 →
      ∃ t : State, exec (.rxbyte b) s = .next t ∧
        t = { s with
          rxb := t.rxb, rxlen := s.rxlen + 1, dcnt := if b = 0x7E#8 then s.dcnt + 1 else s.dcnt
          rxarmed := t.rxarmed, rxdone := t.rxdone, rxovf := t.rxovf } ∧
        (∀ i : Nat, Memory.read t.rxb i = if i = s.rxlen.toNat then some b else Memory.read s.rxb i) ∧
        (t.dcnt = 2 → t.rxarmed = false ∧ t.rxdone = true ∧ t.rxovf = s.rxovf) ∧
        (t.dcnt ≠ 2 → t.rxlen.toNat = 522 → t.rxarmed = false ∧ t.rxdone = true ∧ t.rxovf = true) ∧
        (t.dcnt ≠ 2 → t.rxlen.toNat ≠ 522 → t.rxarmed = true ∧ t.rxdone = s.rxdone ∧ t.rxovf = s.rxovf))

/-- Rule R209: a collection ended by RXSTOP, or by overflow, never decodes: DECODE gives FrameError. -/
def Obligations.StoppedCollectionNeverDecodes : Prop :=
  (∀ s : State, Inv s → s.rxarmed = true →
    ∃ t u : State, exec .rxstop s = .next t ∧ exec .decode t = .next u ∧ u.err = .frameError ∧ u.rxvalid = false) ∧
  ∀ (b : Byte) (s : State), Inv s → s.rxarmed = true →
    ∃ t : State, exec (.rxbyte b) s = .next t ∧ (t.rxovf = true →
      ∃ u : State, exec .decode t = .next u ∧ u.err = .frameError ∧ u.rxvalid = false)

/-- Rule R210: an armed, empty collector that receives exactly one well-formed wire frame closes on its last byte with
the frame in RXB[0..RXLEN), at most 519 bytes, and DECODE yields the frame's logical content. -/
def Obligations.CleanReplyIsCollectedAndDecoded : Prop :=
  ∀ (s : State) (a c : Byte) (p : List Byte), p.length ≤ 255 →
    s.rxarmed = true → s.rxlen = 0 → s.dcnt = 0 →
    ∃ t u : State, collectAll (stuff a c p) s = .next t ∧
      t.rxarmed = false ∧ t.rxdone = true ∧ t.rxovf = s.rxovf ∧
      t.rxlen.toNat = (stuff a c p).length ∧ t.rxlen.toNat ≤ 519 ∧
      Memory.readRange t.rxb 0 t.rxlen.toNat = some (stuff a c p) ∧
      exec .decode t = .next u ∧ u.err = .none ∧ u.rxvalid = true ∧ u.rxadr = a ∧ u.rxcmd = c ∧
      u.rxplen = BitVec.ofNat 8 p.length ∧ Memory.readRange u.rxb 3 p.length = some p

/-! ## Rules over all operations -/

/-- R23: every command but NOP overwrites ERR, so that nothing it does depends on the old code; NOP and RXBYTE never
write it, nor does a host access that is no write of CMD; no code above 7 appears. -/
def Obligations.EveryCommandOverwritesErr : Prop :=
  (∀ (i : Instr) (s : State) (e : ErrorKind), i.isCommand = true → i ≠ .nop →
    exec i { s with err := e } = exec i s) ∧
  (∀ (b : Byte) (s t : State), exec (.rxbyte b) s = .next t → t.err = s.err) ∧
  (∀ s t : State, exec .nop s = .next t → t.err = s.err) ∧
  (∀ (a : Access) (s t : State), a.isCommandWrite = false → hostAccess a s = .next t → t.err = s.err) ∧
  ∀ e : ErrorKind, e.code.toNat ≤ 7

/-- R29, R303: CSACC is written by CSCLR, CSADD, ENCODE, DECODE and RESET and by no other operation, and by no host
access that is no write of CMD. -/
def Obligations.OnlyTheEngineWritesCsacc : Prop :=
  (∀ (i : Instr) (s t : State), exec i s = .next t →
    i ≠ .csclr → (∀ imm : Byte, i ≠ .csadd imm) → i ≠ .encode → i ≠ .decode → i ≠ .reset → t.csacc = s.csacc) ∧
  ∀ (a : Access) (s t : State), a.isCommandWrite = false → hostAccess a s = .next t → t.csacc = s.csacc

/-- R34: TXS only ever grows, and only TXSEND and PRIME append to it. -/
def Obligations.TxsOnlyGrows : Prop :=
  ∀ (i : Instr) (s t : State), exec i s = .next t →
    (∃ bs : List Byte, t.txs = s.txs ++ bs) ∧ (i ≠ .txsend → i ≠ .prime → t.txs = s.txs)

/-- R24, R31: no operation but RESET changes TXADR, TXCMD, TXLEN or TXPAY; R25, R32: none but ENCODE and RESET changes
TXWLEN, TXW or TXRDY (between operations, where no encoder runs). -/
def Obligations.OperationsKeepTheTransmitOperands : Prop :=
  (∀ (i : Instr) (s t : State), exec i s = .next t → i ≠ .reset →
    t.txadr = s.txadr ∧ t.txcmd = s.txcmd ∧ t.txlen = s.txlen ∧ t.txpay = s.txpay) ∧
  ∀ (i : Instr) (s t : State), CodecIdle s → exec i s = .next t → i ≠ .reset → i ≠ .encode →
    t.txwlen = s.txwlen ∧ t.txw = s.txw ∧ t.txrdy = s.txrdy

/-- R28, R274: RXADR, RXCMD and RXPLEN change only in RESET and in a DECODE that ends with ERR None and RXVALID set. -/
def Obligations.ResultRegistersOnlyOnSuccess : Prop :=
  ∀ (i : Instr) (s t : State), exec i s = .next t → i ≠ .reset →
    (t.rxadr = s.rxadr ∧ t.rxcmd = s.rxcmd ∧ t.rxplen = s.rxplen) ∨
    (i = .decode ∧ t.err = .none ∧ t.rxvalid = true)

/-- R207, R111: while a collection is armed, every command but RXSTOP, RXARM and RESET leaves the collection as it is:
RXB, RXLEN, DCNT and its flags. -/
def Obligations.CommandsLeaveAnArmedCollectionAlone : Prop :=
  ∀ (i : Instr) (s t : State), i.isCommand = true → i ≠ .rxstop → i ≠ .rxarm → i ≠ .reset → s.rxarmed = true →
    exec i s = .next t →
    t.rxarmed = true ∧ t.rxdone = s.rxdone ∧ t.rxovf = s.rxovf ∧ t.rxvalid = s.rxvalid ∧ t.rxlen = s.rxlen ∧
    t.dcnt = s.dcnt ∧ t.rxb = s.rxb

/-! ## The host port -/

/-- R20, R61, R66 for reads: a register read returns the value and changes nothing but portLog, the trace of returned
values, which is the model's own and its choice, log entry 6; what each of the 14 registers reads as, ERR by the eight
codes of R260; numbers above 13 are refused. -/
def Obligations.RegReadReturnsAndChangesNothing : Prop :=
  (∀ (n : Nat) (s : State), n ≤ 13 → ∃ v : PortValue, regValue n s = some v ∧ widthFits n v = true ∧
    hostAccess (.regRead n) s = .next { s with portLog := s.portLog ++ [v] }) ∧
  (∀ (n : Nat) (s : State), 13 < n → hostAccess (.regRead n) s = .refused .noSuchRegister) ∧
  (∀ s : State,
    regValue 0 s = some (.half 0x0000#16) ∧ regValue 2 s = some (.byte s.err.code) ∧
    regValue 3 s = some (.byte s.txadr) ∧ regValue 4 s = some (.byte s.txcmd) ∧ regValue 5 s = some (.byte s.txlen) ∧
    regValue 6 s = some (.half s.txwlen) ∧ regValue 7 s = some (.half s.rxlen) ∧ regValue 8 s = some (.half s.rxusz) ∧
    regValue 9 s = some (.byte s.rxadr) ∧ regValue 10 s = some (.byte s.rxcmd) ∧ regValue 11 s = some (.byte s.rxplen) ∧
    regValue 12 s = some (.byte s.csacc) ∧ regValue 13 s = some (.byte (~~~ s.csacc))) ∧
  (∀ s : State, ∃ v : Byte, regValue 1 s = some (.byte v) ∧
    v.getLsbD 0 = s.txrdy ∧ v.getLsbD 1 = s.rxarmed ∧ v.getLsbD 2 = s.rxdone ∧ v.getLsbD 3 = s.rxovf ∧
    v.getLsbD 4 = s.rxvalid ∧ v.getLsbD 5 = false ∧ v.getLsbD 6 = false ∧ v.getLsbD 7 = false) ∧
  ErrorKind.none.code = 0x00#8 ∧ ErrorKind.transportError.code = 0x01#8 ∧ ErrorKind.frameError.code = 0x02#8 ∧
  ErrorKind.unknownEscapeCode.code = 0x03#8 ∧ ErrorKind.checksumMismatch.code = 0x04#8 ∧
  ErrorKind.unsupportedCommand.code = 0x05#8 ∧ ErrorKind.dataError.code = 0x06#8 ∧ ErrorKind.illegalOp.code = 0x07#8

/-- Rules R62, R65, R66, R67 for register writes. A value of another width than the register's is no access of R60 and
is refused (log entry 9). -/
def Obligations.RegWriteEffects : Prop :=
  (∀ (v : Byte) (s : State), hostAccess (.regWrite 3 (.byte v)) s = .next { s with txadr := v }) ∧
  (∀ (v : Byte) (s : State), hostAccess (.regWrite 4 (.byte v)) s = .next { s with txcmd := v }) ∧
  (∀ (v : Byte) (s : State), hostAccess (.regWrite 5 (.byte v)) s = .next { s with txlen := v }) ∧
  (∀ (v : Word) (s : State), s.rxarmed = false →
    hostAccess (.regWrite 7 (.half v)) s = .next { s with rxlen := v, rxvalid := false }) ∧
  (∀ (v : Word) (s : State), s.rxarmed = true → hostAccess (.regWrite 7 (.half v)) s = .refused .armedWrite) ∧
  (∀ (w : Word) (s : State), hostAccess (.regWrite 0 (.half w)) s = exec (decodeCmd w) s) ∧
  (∀ (n : Nat) (v : PortValue) (s : State), n ∈ [1, 2, 6, 8, 9, 10, 11, 12, 13] → widthFits n v = true →
    hostAccess (.regWrite n v) s = .next s) ∧
  (∀ (n : Nat) (v : PortValue) (s : State), n ≤ 13 → widthFits n v = false →
    hostAccess (.regWrite n v) s = .refused .widthMismatch) ∧
  ∀ (n : Nat) (v : PortValue) (s : State), 13 < n → hostAccess (.regWrite n v) s = .refused .noSuchRegister

/-- Rules R63 to R67 for buffer accesses: a read returns the byte and changes nothing else (that it is appended to portLog,
the trace of returned values, is the model's choice, log entry 6), a byte without a value is the
host-program fault, a write changes its one byte, TXW is read-only, RXB is the collector's while armed, an index outside
the space is refused. -/
def Obligations.BufferAccessEffects : Prop :=
  (∀ (sp : Space) (i : Nat) (b : Byte) (s : State), i < sp.size → Memory.read (s.mem sp) i = some b →
    hostAccess (.bufRead sp i) s = .next { s with portLog := s.portLog ++ [.byte b] }) ∧
  (∀ (sp : Space) (i : Nat) (s : State), i < sp.size → Memory.read (s.mem sp) i = none →
    hostAccess (.bufRead sp i) s = .fault .unwrittenByte) ∧
  (∀ (i : Nat) (v : Byte) (s : State), i < 255 → ∃ t : State, hostAccess (.bufWrite .txpay i v) s = .next t ∧
    t = { s with txpay := t.txpay } ∧
    ∀ j : Nat, Memory.read t.txpay j = if j = i then some v else Memory.read s.txpay j) ∧
  (∀ (i : Nat) (v : Byte) (s : State), i < 522 → hostAccess (.bufWrite .txw i v) s = .next s) ∧
  (∀ (i : Nat) (v : Byte) (s : State), i < 522 → s.rxarmed = false →
    ∃ t : State, hostAccess (.bufWrite .rxb i v) s = .next t ∧
      t = { s with rxb := t.rxb, rxvalid := false } ∧
      ∀ j : Nat, Memory.read t.rxb j = if j = i then some v else Memory.read s.rxb j) ∧
  (∀ (i : Nat) (v : Byte) (s : State), i < 522 → s.rxarmed = true →
    hostAccess (.bufWrite .rxb i v) s = .refused .armedWrite) ∧
  ∀ (sp : Space) (i : Nat) (v : Byte) (s : State), sp.size ≤ i →
    hostAccess (.bufRead sp i) s = .refused .noSuchIndex ∧
    hostAccess (.bufWrite sp i v) s = .refused .noSuchIndex

/-! ## The Transport Session -/

/-- R231: a call of send, run turn by turn, received bytes falling anywhere between its moves, writes the operands, encodes
and sends: TXS grows by the bytes of the frame the channel took, and the result is Ok or TransportError by whether it
took them all. The turns are log entry 10 and the channel's answer, from the queue or free, is log entry 2: the model's
choices. -/
def Obligations.SessionSendRuns : Prop :=
  ∀ (s : State) (a c : Byte) (p : List Byte) (mid rest : List Input),
    Inv s → p.length ≤ 255 → s.session.todo = [] →
    TurnsAndBytes mid → mid.count .turn = p.length + 7 →
    s.inputs = .call (.send a c p) :: (mid ++ rest) →
    ∃ t : State, Host.Core.run core (mid.length + 1) s = .next t ∧ t.inputs = rest ∧
      t.txs = s.txs ++ (stuff a c p).take (channelAnswer (stuff a c p).length s) ∧
      t.txadr = a ∧ t.txcmd = c ∧ t.txlen = BitVec.ofNat 8 p.length ∧ t.session.todo = [] ∧
      t.session.result = some (
        if channelAnswer (stuff a c p).length s < (stuff a c p).length then .error .transportError else .ok)

/-- R234: a call of activateTransport sends FF and answers Ok, or answers TransportError. The turns are log entry 10 and the
queue of answers log entry 2, the model's choices. -/
def Obligations.SessionActivateRuns : Prop :=
  ∀ (s : State) (k : Nat) (ans : List Nat) (rest : List Input),
    s.session.todo = [] → s.answers = k :: ans →
    s.inputs = .call .activateTransport :: (List.replicate 3 .turn ++ rest) →
    ∃ t : State, Host.Core.run core 4 s = .next t ∧ t.inputs = rest ∧
      t.txs = s.txs ++ (if 1 ≤ k then [0xFF#8] else []) ∧ t.session.todo = [] ∧
      t.session.result = some (if 1 ≤ k then .ok else .error .transportError)

/-- R233, R206: receiveFrame polls, the polls falling anywhere among the received bytes. If the channel delivers fewer than
two delimiters and leaves room and then falls silent, it returns, when the deadline comes, exactly the bytes that arrived;
if the collection closes by itself, on the second delimiter or because RXB is full, it returns, without a deadline,
exactly the bytes up to the closing one, and drops later ones. No error either way. The turns and the deadline are the
model's choice, log entry 10; that the call itself arms, an armed collection or not, is deduced from R242, log entry 21. -/
def Obligations.SessionReceiveTimesOut : Prop :=
  (∀ (s : State) (mid rest : List Input), TurnsAndBytes mid → StaysOpen (receivedBytes mid) → s.session.todo = [] →
    s.inputs = .call .receiveFrame :: .turn :: (mid ++ (.deadline :: .turn :: .turn :: rest)) →
    ∃ t : State, Host.Core.run core (mid.length + 5) s = .next t ∧ t.inputs = rest ∧
      t.rxarmed = false ∧ t.rxdone = true ∧ t.rxovf = false ∧ t.err = .none ∧ t.session.todo = [] ∧
      t.session.result = some (.raw (receivedBytes mid))) ∧
  ∀ (s : State) (mid post rest : List Input) (b : Byte), TurnsAndBytes mid → TurnsAndBytes post →
    ClosesOn (receivedBytes mid) b → post.count .turn = 2 → s.session.todo = [] →
    s.inputs = .call .receiveFrame :: .turn :: (mid ++ (.rxByte b :: (post ++ rest))) →
    ∃ t : State, Host.Core.run core (mid.length + post.length + 3) s = .next t ∧ t.inputs = rest ∧
      t.rxarmed = false ∧ t.rxdone = true ∧
      t.rxovf = decide ((receivedBytes mid ++ [b]).count 0x7E#8 < 2) ∧ t.err = .none ∧ t.session.todo = [] ∧
      t.session.result = some (.raw (receivedBytes mid ++ [b]))

/-- R232, R235 to R239: sendAndReceive, received bytes falling anywhere between its moves from the arming on, its polls
among them. With a channel that takes the whole request and a peer that answers with one well-formed frame, whose last byte
arrives after the request is out: UnsupportedCommand for a nonzero status byte, else DataError for a payload longer than the
caller's buffer, else Ok with the payload copied; on an error nothing is copied, and every byte of the caller's buffer that
is not copied over is as it was at the call. With a short write: TransportError, after an RXSTOP, whatever bytes arrive
meanwhile. With a reply that closes the collection and does not decode, or with no complete reply before the deadline:
the decode error, FrameError in the second case, and nothing copied. It holds for every status_of (log entry 3). The
turns and the deadline are log entry 10, the reads of RXLEN and RXPLEN among the turns counted log entry 20, the channel's
answer is log entry 2, the buffer brought by the call is log entry 12: the model's choices. -/
def Obligations.SessionExchangeRuns : Prop :=
  (∀ (s : State) (a c ra rc : Byte) (p rp : List Byte) (buf : List (Option Byte)) (mid post rest : List Input),
    p.length ≤ 255 → rp.length ≤ 255 → s.session.todo = [] →
    channelAnswer (stuff a c p).length s = (stuff a c p).length →
    TurnsAndBytes mid → TurnsAndBytes post → p.length + 6 ≤ mid.count .turn → post.count .turn = rp.length + 7 →
    receivedBytes mid ++ [0x7E#8] = stuff ra rc rp →
    s.inputs = .call (.sendAndReceive a c p buf) :: .turn :: (mid ++ (.rxByte 0x7E#8 :: (post ++ rest))) →
    ∃ t : State, Host.Core.run core (mid.length + post.length + 3) s = .next t ∧
      t.inputs = rest ∧ t.txs = s.txs ++ stuff a c p ∧ t.session.todo = [] ∧ t.err = .none ∧
      t.session.result = some (
        if Config.statusOf ra rc (BitVec.ofNat 8 rp.length) rp ≠ 0 then .error .unsupportedCommand
        else if buf.length < rp.length then .error .dataError
        else .okLength rp.length) ∧
      ∀ i : Nat, Memory.read t.session.resp i =
        if Config.statusOf ra rc (BitVec.ofNat 8 rp.length) rp = 0 ∧ rp.length ≤ buf.length ∧ i < rp.length then rp[i]?
        else buf[i]?.join) ∧
  (∀ (s : State) (a c : Byte) (p : List Byte) (buf : List (Option Byte)) (mid rest : List Input),
    Inv s → p.length ≤ 255 → s.session.todo = [] →
    channelAnswer (stuff a c p).length s < (stuff a c p).length →
    TurnsAndBytes mid → mid.count .turn = p.length + 9 →
    s.inputs = .call (.sendAndReceive a c p buf) :: (mid ++ rest) →
    ∃ t : State, Host.Core.run core (mid.length + 1) s = .next t ∧ t.inputs = rest ∧
      t.txs = s.txs ++ (stuff a c p).take (channelAnswer (stuff a c p).length s) ∧
      t.rxarmed = false ∧ t.rxdone = true ∧ t.err = .none ∧ t.session.todo = [] ∧
      t.session.result = some (.error .transportError) ∧ ∀ i : Nat, Memory.read t.session.resp i = buf[i]?.join) ∧
  (∀ (s : State) (a c : Byte) (p : List Byte) (buf : List (Option Byte)) (mid post rest : List Input) (b : Byte)
      (e : ErrorKind),
    p.length ≤ 255 → s.session.todo = [] → channelAnswer (stuff a c p).length s = (stuff a c p).length →
    TurnsAndBytes mid → TurnsAndBytes post → p.length + 6 ≤ mid.count .turn → post.count .turn = 4 →
    ClosesOn (receivedBytes mid) b → unstuff (receivedBytes mid ++ [b]) = .error e →
    s.inputs = .call (.sendAndReceive a c p buf) :: .turn :: (mid ++ (.rxByte b :: (post ++ rest))) →
    ∃ t : State, Host.Core.run core (mid.length + post.length + 3) s = .next t ∧ t.inputs = rest ∧
      t.txs = s.txs ++ stuff a c p ∧ t.err = e ∧ t.rxvalid = false ∧ t.session.todo = [] ∧
      t.session.result = some (.error e) ∧ ∀ i : Nat, Memory.read t.session.resp i = buf[i]?.join) ∧
  ∀ (s : State) (a c : Byte) (p : List Byte) (buf : List (Option Byte)) (mid post rest : List Input),
    p.length ≤ 255 → s.session.todo = [] → channelAnswer (stuff a c p).length s = (stuff a c p).length →
    TurnsAndBytes mid → TurnsAndBytes post → p.length + 6 ≤ mid.count .turn → post.count .turn = 3 →
    StaysOpen (receivedBytes mid) →
    s.inputs = .call (.sendAndReceive a c p buf) :: .turn :: (mid ++ (.deadline :: .turn :: (post ++ rest))) →
    ∃ t : State, Host.Core.run core (mid.length + post.length + 4) s = .next t ∧ t.inputs = rest ∧
      t.txs = s.txs ++ stuff a c p ∧ t.err = .frameError ∧ t.rxvalid = false ∧ t.session.todo = [] ∧
      t.session.result = some (.error .frameError) ∧ ∀ i : Nat, Memory.read t.session.resp i = buf[i]?.join

/-- Every step keeps the caller's response buffer from being overrun, whatever accesses fall between the session's own
(R237, R238). -/
def Obligations.CallerBufferIsNeverOverrun : Prop :=
  ∀ s t : State, CallerBufferSafe s → step s = .next t → CallerBufferSafe t

/-- R231, R241: a call while an operation runs is refused, and so is a payload of more than 255 bytes. -/
def Obligations.SessionCallsRefused : Prop :=
  (∀ (c : SessionCall) (s : State) (rest : List Input), s.inputs = .call c :: rest → s.session.todo ≠ [] →
    step s = .refused .sessionBusy) ∧
  ∀ (c : SessionCall) (s : State) (rest : List Input), s.inputs = .call c :: rest → s.session.todo = [] →
    255 < (callPayload c).length → step s = .refused .payloadTooLong
end

