-- ==== Sys2Proof/Laws/State.lean ====
section
/-! SUPPORT. For each named update of State, one lemma a field: what it holds afterwards. -/

namespace Sys2Proof.Machine

variable (s : State)


/-! `succeed` -/

@[simp] theorem succeed_txrdy : (succeed s).txrdy = s.txrdy := rfl
@[simp] theorem succeed_rxarmed : (succeed s).rxarmed = s.rxarmed := rfl
@[simp] theorem succeed_rxdone : (succeed s).rxdone = s.rxdone := rfl
@[simp] theorem succeed_rxovf : (succeed s).rxovf = s.rxovf := rfl
@[simp] theorem succeed_rxvalid : (succeed s).rxvalid = s.rxvalid := rfl
@[simp] theorem succeed_err : (succeed s).err = .none := rfl
@[simp] theorem succeed_txadr : (succeed s).txadr = s.txadr := rfl
@[simp] theorem succeed_txcmd : (succeed s).txcmd = s.txcmd := rfl
@[simp] theorem succeed_txlen : (succeed s).txlen = s.txlen := rfl
@[simp] theorem succeed_txwlen : (succeed s).txwlen = s.txwlen := rfl
@[simp] theorem succeed_rxlen : (succeed s).rxlen = s.rxlen := rfl
@[simp] theorem succeed_rxusz : (succeed s).rxusz = s.rxusz := rfl
@[simp] theorem succeed_rxadr : (succeed s).rxadr = s.rxadr := rfl
@[simp] theorem succeed_rxcmd : (succeed s).rxcmd = s.rxcmd := rfl
@[simp] theorem succeed_rxplen : (succeed s).rxplen = s.rxplen := rfl
@[simp] theorem succeed_csacc : (succeed s).csacc = s.csacc := rfl
@[simp] theorem succeed_txpay : (succeed s).txpay = s.txpay := rfl
@[simp] theorem succeed_txw : (succeed s).txw = s.txw := rfl
@[simp] theorem succeed_rxb : (succeed s).rxb = s.rxb := rfl
@[simp] theorem succeed_txs : (succeed s).txs = s.txs := rfl
@[simp] theorem succeed_encst : (succeed s).encst = s.encst := rfl
@[simp] theorem succeed_decst : (succeed s).decst = s.decst := rfl
@[simp] theorem succeed_pi : (succeed s).pi = s.pi := rfl
@[simp] theorem succeed_rd : (succeed s).rd = s.rd := rfl
@[simp] theorem succeed_wr : (succeed s).wr = s.wr := rfl
@[simp] theorem succeed_dcnt : (succeed s).dcnt = s.dcnt := rfl
@[simp] theorem succeed_inputs : (succeed s).inputs = s.inputs := rfl
@[simp] theorem succeed_answers : (succeed s).answers = s.answers := rfl
@[simp] theorem succeed_draws : (succeed s).draws = s.draws := rfl
@[simp] theorem succeed_freeCtr : (succeed s).freeCtr = s.freeCtr := rfl
@[simp] theorem succeed_portLog : (succeed s).portLog = s.portLog := rfl
@[simp] theorem succeed_session : (succeed s).session = s.session := rfl

/-! `raise` -/

@[simp] theorem raise_txrdy (e : ErrorKind) : (raise e s).txrdy = s.txrdy := rfl
@[simp] theorem raise_rxarmed (e : ErrorKind) : (raise e s).rxarmed = s.rxarmed := rfl
@[simp] theorem raise_rxdone (e : ErrorKind) : (raise e s).rxdone = s.rxdone := rfl
@[simp] theorem raise_rxovf (e : ErrorKind) : (raise e s).rxovf = s.rxovf := rfl
@[simp] theorem raise_rxvalid (e : ErrorKind) : (raise e s).rxvalid = s.rxvalid := rfl
@[simp] theorem raise_err (e : ErrorKind) : (raise e s).err = e := rfl
@[simp] theorem raise_txadr (e : ErrorKind) : (raise e s).txadr = s.txadr := rfl
@[simp] theorem raise_txcmd (e : ErrorKind) : (raise e s).txcmd = s.txcmd := rfl
@[simp] theorem raise_txlen (e : ErrorKind) : (raise e s).txlen = s.txlen := rfl
@[simp] theorem raise_txwlen (e : ErrorKind) : (raise e s).txwlen = s.txwlen := rfl
@[simp] theorem raise_rxlen (e : ErrorKind) : (raise e s).rxlen = s.rxlen := rfl
@[simp] theorem raise_rxusz (e : ErrorKind) : (raise e s).rxusz = s.rxusz := rfl
@[simp] theorem raise_rxadr (e : ErrorKind) : (raise e s).rxadr = s.rxadr := rfl
@[simp] theorem raise_rxcmd (e : ErrorKind) : (raise e s).rxcmd = s.rxcmd := rfl
@[simp] theorem raise_rxplen (e : ErrorKind) : (raise e s).rxplen = s.rxplen := rfl
@[simp] theorem raise_csacc (e : ErrorKind) : (raise e s).csacc = s.csacc := rfl
@[simp] theorem raise_txpay (e : ErrorKind) : (raise e s).txpay = s.txpay := rfl
@[simp] theorem raise_txw (e : ErrorKind) : (raise e s).txw = s.txw := rfl
@[simp] theorem raise_rxb (e : ErrorKind) : (raise e s).rxb = s.rxb := rfl
@[simp] theorem raise_txs (e : ErrorKind) : (raise e s).txs = s.txs := rfl
@[simp] theorem raise_encst (e : ErrorKind) : (raise e s).encst = .idle := rfl
@[simp] theorem raise_decst (e : ErrorKind) : (raise e s).decst = .idle := rfl
@[simp] theorem raise_pi (e : ErrorKind) : (raise e s).pi = s.pi := rfl
@[simp] theorem raise_rd (e : ErrorKind) : (raise e s).rd = s.rd := rfl
@[simp] theorem raise_wr (e : ErrorKind) : (raise e s).wr = s.wr := rfl
@[simp] theorem raise_dcnt (e : ErrorKind) : (raise e s).dcnt = s.dcnt := rfl
@[simp] theorem raise_inputs (e : ErrorKind) : (raise e s).inputs = s.inputs := rfl
@[simp] theorem raise_answers (e : ErrorKind) : (raise e s).answers = s.answers := rfl
@[simp] theorem raise_draws (e : ErrorKind) : (raise e s).draws = s.draws := rfl
@[simp] theorem raise_freeCtr (e : ErrorKind) : (raise e s).freeCtr = s.freeCtr := rfl
@[simp] theorem raise_portLog (e : ErrorKind) : (raise e s).portLog = s.portLog := rfl
@[simp] theorem raise_session (e : ErrorKind) : (raise e s).session = s.session := rfl

/-! `flagsArm` -/

@[simp] theorem flagsArm_txrdy : (flagsArm s).txrdy = s.txrdy := rfl
@[simp] theorem flagsArm_rxarmed : (flagsArm s).rxarmed = true := rfl
@[simp] theorem flagsArm_rxdone : (flagsArm s).rxdone = false := rfl
@[simp] theorem flagsArm_rxovf : (flagsArm s).rxovf = false := rfl
@[simp] theorem flagsArm_rxvalid : (flagsArm s).rxvalid = false := rfl
@[simp] theorem flagsArm_err : (flagsArm s).err = s.err := rfl
@[simp] theorem flagsArm_txadr : (flagsArm s).txadr = s.txadr := rfl
@[simp] theorem flagsArm_txcmd : (flagsArm s).txcmd = s.txcmd := rfl
@[simp] theorem flagsArm_txlen : (flagsArm s).txlen = s.txlen := rfl
@[simp] theorem flagsArm_txwlen : (flagsArm s).txwlen = s.txwlen := rfl
@[simp] theorem flagsArm_rxlen : (flagsArm s).rxlen = s.rxlen := rfl
@[simp] theorem flagsArm_rxusz : (flagsArm s).rxusz = s.rxusz := rfl
@[simp] theorem flagsArm_rxadr : (flagsArm s).rxadr = s.rxadr := rfl
@[simp] theorem flagsArm_rxcmd : (flagsArm s).rxcmd = s.rxcmd := rfl
@[simp] theorem flagsArm_rxplen : (flagsArm s).rxplen = s.rxplen := rfl
@[simp] theorem flagsArm_csacc : (flagsArm s).csacc = s.csacc := rfl
@[simp] theorem flagsArm_txpay : (flagsArm s).txpay = s.txpay := rfl
@[simp] theorem flagsArm_txw : (flagsArm s).txw = s.txw := rfl
@[simp] theorem flagsArm_rxb : (flagsArm s).rxb = s.rxb := rfl
@[simp] theorem flagsArm_txs : (flagsArm s).txs = s.txs := rfl
@[simp] theorem flagsArm_encst : (flagsArm s).encst = s.encst := rfl
@[simp] theorem flagsArm_decst : (flagsArm s).decst = s.decst := rfl
@[simp] theorem flagsArm_pi : (flagsArm s).pi = s.pi := rfl
@[simp] theorem flagsArm_rd : (flagsArm s).rd = s.rd := rfl
@[simp] theorem flagsArm_wr : (flagsArm s).wr = s.wr := rfl
@[simp] theorem flagsArm_dcnt : (flagsArm s).dcnt = s.dcnt := rfl
@[simp] theorem flagsArm_inputs : (flagsArm s).inputs = s.inputs := rfl
@[simp] theorem flagsArm_answers : (flagsArm s).answers = s.answers := rfl
@[simp] theorem flagsArm_draws : (flagsArm s).draws = s.draws := rfl
@[simp] theorem flagsArm_freeCtr : (flagsArm s).freeCtr = s.freeCtr := rfl
@[simp] theorem flagsArm_portLog : (flagsArm s).portLog = s.portLog := rfl
@[simp] theorem flagsArm_session : (flagsArm s).session = s.session := rfl

/-! `flagsClose` -/

@[simp] theorem flagsClose_txrdy : (flagsClose s).txrdy = s.txrdy := rfl
@[simp] theorem flagsClose_rxarmed : (flagsClose s).rxarmed = false := rfl
@[simp] theorem flagsClose_rxdone : (flagsClose s).rxdone = true := rfl
@[simp] theorem flagsClose_rxovf : (flagsClose s).rxovf = s.rxovf := rfl
@[simp] theorem flagsClose_rxvalid : (flagsClose s).rxvalid = s.rxvalid := rfl
@[simp] theorem flagsClose_err : (flagsClose s).err = s.err := rfl
@[simp] theorem flagsClose_txadr : (flagsClose s).txadr = s.txadr := rfl
@[simp] theorem flagsClose_txcmd : (flagsClose s).txcmd = s.txcmd := rfl
@[simp] theorem flagsClose_txlen : (flagsClose s).txlen = s.txlen := rfl
@[simp] theorem flagsClose_txwlen : (flagsClose s).txwlen = s.txwlen := rfl
@[simp] theorem flagsClose_rxlen : (flagsClose s).rxlen = s.rxlen := rfl
@[simp] theorem flagsClose_rxusz : (flagsClose s).rxusz = s.rxusz := rfl
@[simp] theorem flagsClose_rxadr : (flagsClose s).rxadr = s.rxadr := rfl
@[simp] theorem flagsClose_rxcmd : (flagsClose s).rxcmd = s.rxcmd := rfl
@[simp] theorem flagsClose_rxplen : (flagsClose s).rxplen = s.rxplen := rfl
@[simp] theorem flagsClose_csacc : (flagsClose s).csacc = s.csacc := rfl
@[simp] theorem flagsClose_txpay : (flagsClose s).txpay = s.txpay := rfl
@[simp] theorem flagsClose_txw : (flagsClose s).txw = s.txw := rfl
@[simp] theorem flagsClose_rxb : (flagsClose s).rxb = s.rxb := rfl
@[simp] theorem flagsClose_txs : (flagsClose s).txs = s.txs := rfl
@[simp] theorem flagsClose_encst : (flagsClose s).encst = s.encst := rfl
@[simp] theorem flagsClose_decst : (flagsClose s).decst = s.decst := rfl
@[simp] theorem flagsClose_pi : (flagsClose s).pi = s.pi := rfl
@[simp] theorem flagsClose_rd : (flagsClose s).rd = s.rd := rfl
@[simp] theorem flagsClose_wr : (flagsClose s).wr = s.wr := rfl
@[simp] theorem flagsClose_dcnt : (flagsClose s).dcnt = s.dcnt := rfl
@[simp] theorem flagsClose_inputs : (flagsClose s).inputs = s.inputs := rfl
@[simp] theorem flagsClose_answers : (flagsClose s).answers = s.answers := rfl
@[simp] theorem flagsClose_draws : (flagsClose s).draws = s.draws := rfl
@[simp] theorem flagsClose_freeCtr : (flagsClose s).freeCtr = s.freeCtr := rfl
@[simp] theorem flagsClose_portLog : (flagsClose s).portLog = s.portLog := rfl
@[simp] theorem flagsClose_session : (flagsClose s).session = s.session := rfl

/-! `flagsCloseFull` -/

@[simp] theorem flagsCloseFull_txrdy : (flagsCloseFull s).txrdy = s.txrdy := rfl
@[simp] theorem flagsCloseFull_rxarmed : (flagsCloseFull s).rxarmed = false := rfl
@[simp] theorem flagsCloseFull_rxdone : (flagsCloseFull s).rxdone = true := rfl
@[simp] theorem flagsCloseFull_rxovf : (flagsCloseFull s).rxovf = true := rfl
@[simp] theorem flagsCloseFull_rxvalid : (flagsCloseFull s).rxvalid = s.rxvalid := rfl
@[simp] theorem flagsCloseFull_err : (flagsCloseFull s).err = s.err := rfl
@[simp] theorem flagsCloseFull_txadr : (flagsCloseFull s).txadr = s.txadr := rfl
@[simp] theorem flagsCloseFull_txcmd : (flagsCloseFull s).txcmd = s.txcmd := rfl
@[simp] theorem flagsCloseFull_txlen : (flagsCloseFull s).txlen = s.txlen := rfl
@[simp] theorem flagsCloseFull_txwlen : (flagsCloseFull s).txwlen = s.txwlen := rfl
@[simp] theorem flagsCloseFull_rxlen : (flagsCloseFull s).rxlen = s.rxlen := rfl
@[simp] theorem flagsCloseFull_rxusz : (flagsCloseFull s).rxusz = s.rxusz := rfl
@[simp] theorem flagsCloseFull_rxadr : (flagsCloseFull s).rxadr = s.rxadr := rfl
@[simp] theorem flagsCloseFull_rxcmd : (flagsCloseFull s).rxcmd = s.rxcmd := rfl
@[simp] theorem flagsCloseFull_rxplen : (flagsCloseFull s).rxplen = s.rxplen := rfl
@[simp] theorem flagsCloseFull_csacc : (flagsCloseFull s).csacc = s.csacc := rfl
@[simp] theorem flagsCloseFull_txpay : (flagsCloseFull s).txpay = s.txpay := rfl
@[simp] theorem flagsCloseFull_txw : (flagsCloseFull s).txw = s.txw := rfl
@[simp] theorem flagsCloseFull_rxb : (flagsCloseFull s).rxb = s.rxb := rfl
@[simp] theorem flagsCloseFull_txs : (flagsCloseFull s).txs = s.txs := rfl
@[simp] theorem flagsCloseFull_encst : (flagsCloseFull s).encst = s.encst := rfl
@[simp] theorem flagsCloseFull_decst : (flagsCloseFull s).decst = s.decst := rfl
@[simp] theorem flagsCloseFull_pi : (flagsCloseFull s).pi = s.pi := rfl
@[simp] theorem flagsCloseFull_rd : (flagsCloseFull s).rd = s.rd := rfl
@[simp] theorem flagsCloseFull_wr : (flagsCloseFull s).wr = s.wr := rfl
@[simp] theorem flagsCloseFull_dcnt : (flagsCloseFull s).dcnt = s.dcnt := rfl
@[simp] theorem flagsCloseFull_inputs : (flagsCloseFull s).inputs = s.inputs := rfl
@[simp] theorem flagsCloseFull_answers : (flagsCloseFull s).answers = s.answers := rfl
@[simp] theorem flagsCloseFull_draws : (flagsCloseFull s).draws = s.draws := rfl
@[simp] theorem flagsCloseFull_freeCtr : (flagsCloseFull s).freeCtr = s.freeCtr := rfl
@[simp] theorem flagsCloseFull_portLog : (flagsCloseFull s).portLog = s.portLog := rfl
@[simp] theorem flagsCloseFull_session : (flagsCloseFull s).session = s.session := rfl

/-! `flagsInvalidate` -/

@[simp] theorem flagsInvalidate_txrdy : (flagsInvalidate s).txrdy = s.txrdy := rfl
@[simp] theorem flagsInvalidate_rxarmed : (flagsInvalidate s).rxarmed = s.rxarmed := rfl
@[simp] theorem flagsInvalidate_rxdone : (flagsInvalidate s).rxdone = s.rxdone := rfl
@[simp] theorem flagsInvalidate_rxovf : (flagsInvalidate s).rxovf = s.rxovf := rfl
@[simp] theorem flagsInvalidate_rxvalid : (flagsInvalidate s).rxvalid = false := rfl
@[simp] theorem flagsInvalidate_err : (flagsInvalidate s).err = s.err := rfl
@[simp] theorem flagsInvalidate_txadr : (flagsInvalidate s).txadr = s.txadr := rfl
@[simp] theorem flagsInvalidate_txcmd : (flagsInvalidate s).txcmd = s.txcmd := rfl
@[simp] theorem flagsInvalidate_txlen : (flagsInvalidate s).txlen = s.txlen := rfl
@[simp] theorem flagsInvalidate_txwlen : (flagsInvalidate s).txwlen = s.txwlen := rfl
@[simp] theorem flagsInvalidate_rxlen : (flagsInvalidate s).rxlen = s.rxlen := rfl
@[simp] theorem flagsInvalidate_rxusz : (flagsInvalidate s).rxusz = s.rxusz := rfl
@[simp] theorem flagsInvalidate_rxadr : (flagsInvalidate s).rxadr = s.rxadr := rfl
@[simp] theorem flagsInvalidate_rxcmd : (flagsInvalidate s).rxcmd = s.rxcmd := rfl
@[simp] theorem flagsInvalidate_rxplen : (flagsInvalidate s).rxplen = s.rxplen := rfl
@[simp] theorem flagsInvalidate_csacc : (flagsInvalidate s).csacc = s.csacc := rfl
@[simp] theorem flagsInvalidate_txpay : (flagsInvalidate s).txpay = s.txpay := rfl
@[simp] theorem flagsInvalidate_txw : (flagsInvalidate s).txw = s.txw := rfl
@[simp] theorem flagsInvalidate_rxb : (flagsInvalidate s).rxb = s.rxb := rfl
@[simp] theorem flagsInvalidate_txs : (flagsInvalidate s).txs = s.txs := rfl
@[simp] theorem flagsInvalidate_encst : (flagsInvalidate s).encst = s.encst := rfl
@[simp] theorem flagsInvalidate_decst : (flagsInvalidate s).decst = s.decst := rfl
@[simp] theorem flagsInvalidate_pi : (flagsInvalidate s).pi = s.pi := rfl
@[simp] theorem flagsInvalidate_rd : (flagsInvalidate s).rd = s.rd := rfl
@[simp] theorem flagsInvalidate_wr : (flagsInvalidate s).wr = s.wr := rfl
@[simp] theorem flagsInvalidate_dcnt : (flagsInvalidate s).dcnt = s.dcnt := rfl
@[simp] theorem flagsInvalidate_inputs : (flagsInvalidate s).inputs = s.inputs := rfl
@[simp] theorem flagsInvalidate_answers : (flagsInvalidate s).answers = s.answers := rfl
@[simp] theorem flagsInvalidate_draws : (flagsInvalidate s).draws = s.draws := rfl
@[simp] theorem flagsInvalidate_freeCtr : (flagsInvalidate s).freeCtr = s.freeCtr := rfl
@[simp] theorem flagsInvalidate_portLog : (flagsInvalidate s).portLog = s.portLog := rfl
@[simp] theorem flagsInvalidate_session : (flagsInvalidate s).session = s.session := rfl

/-! `accumulate` -/

@[simp] theorem accumulate_txrdy (b : Byte) : (accumulate b s).txrdy = s.txrdy := rfl
@[simp] theorem accumulate_rxarmed (b : Byte) : (accumulate b s).rxarmed = s.rxarmed := rfl
@[simp] theorem accumulate_rxdone (b : Byte) : (accumulate b s).rxdone = s.rxdone := rfl
@[simp] theorem accumulate_rxovf (b : Byte) : (accumulate b s).rxovf = s.rxovf := rfl
@[simp] theorem accumulate_rxvalid (b : Byte) : (accumulate b s).rxvalid = s.rxvalid := rfl
@[simp] theorem accumulate_err (b : Byte) : (accumulate b s).err = s.err := rfl
@[simp] theorem accumulate_txadr (b : Byte) : (accumulate b s).txadr = s.txadr := rfl
@[simp] theorem accumulate_txcmd (b : Byte) : (accumulate b s).txcmd = s.txcmd := rfl
@[simp] theorem accumulate_txlen (b : Byte) : (accumulate b s).txlen = s.txlen := rfl
@[simp] theorem accumulate_txwlen (b : Byte) : (accumulate b s).txwlen = s.txwlen := rfl
@[simp] theorem accumulate_rxlen (b : Byte) : (accumulate b s).rxlen = s.rxlen := rfl
@[simp] theorem accumulate_rxusz (b : Byte) : (accumulate b s).rxusz = s.rxusz := rfl
@[simp] theorem accumulate_rxadr (b : Byte) : (accumulate b s).rxadr = s.rxadr := rfl
@[simp] theorem accumulate_rxcmd (b : Byte) : (accumulate b s).rxcmd = s.rxcmd := rfl
@[simp] theorem accumulate_rxplen (b : Byte) : (accumulate b s).rxplen = s.rxplen := rfl
@[simp] theorem accumulate_csacc (b : Byte) : (accumulate b s).csacc = s.csacc + b := rfl
@[simp] theorem accumulate_txpay (b : Byte) : (accumulate b s).txpay = s.txpay := rfl
@[simp] theorem accumulate_txw (b : Byte) : (accumulate b s).txw = s.txw := rfl
@[simp] theorem accumulate_rxb (b : Byte) : (accumulate b s).rxb = s.rxb := rfl
@[simp] theorem accumulate_txs (b : Byte) : (accumulate b s).txs = s.txs := rfl
@[simp] theorem accumulate_encst (b : Byte) : (accumulate b s).encst = s.encst := rfl
@[simp] theorem accumulate_decst (b : Byte) : (accumulate b s).decst = s.decst := rfl
@[simp] theorem accumulate_pi (b : Byte) : (accumulate b s).pi = s.pi := rfl
@[simp] theorem accumulate_rd (b : Byte) : (accumulate b s).rd = s.rd := rfl
@[simp] theorem accumulate_wr (b : Byte) : (accumulate b s).wr = s.wr := rfl
@[simp] theorem accumulate_dcnt (b : Byte) : (accumulate b s).dcnt = s.dcnt := rfl
@[simp] theorem accumulate_inputs (b : Byte) : (accumulate b s).inputs = s.inputs := rfl
@[simp] theorem accumulate_answers (b : Byte) : (accumulate b s).answers = s.answers := rfl
@[simp] theorem accumulate_draws (b : Byte) : (accumulate b s).draws = s.draws := rfl
@[simp] theorem accumulate_freeCtr (b : Byte) : (accumulate b s).freeCtr = s.freeCtr := rfl
@[simp] theorem accumulate_portLog (b : Byte) : (accumulate b s).portLog = s.portLog := rfl
@[simp] theorem accumulate_session (b : Byte) : (accumulate b s).session = s.session := rfl

/-! `txOut` -/

@[simp] theorem txOut_txrdy (bs : List Byte) : (txOut bs s).txrdy = s.txrdy := rfl
@[simp] theorem txOut_rxarmed (bs : List Byte) : (txOut bs s).rxarmed = s.rxarmed := rfl
@[simp] theorem txOut_rxdone (bs : List Byte) : (txOut bs s).rxdone = s.rxdone := rfl
@[simp] theorem txOut_rxovf (bs : List Byte) : (txOut bs s).rxovf = s.rxovf := rfl
@[simp] theorem txOut_rxvalid (bs : List Byte) : (txOut bs s).rxvalid = s.rxvalid := rfl
@[simp] theorem txOut_err (bs : List Byte) : (txOut bs s).err = s.err := rfl
@[simp] theorem txOut_txadr (bs : List Byte) : (txOut bs s).txadr = s.txadr := rfl
@[simp] theorem txOut_txcmd (bs : List Byte) : (txOut bs s).txcmd = s.txcmd := rfl
@[simp] theorem txOut_txlen (bs : List Byte) : (txOut bs s).txlen = s.txlen := rfl
@[simp] theorem txOut_txwlen (bs : List Byte) : (txOut bs s).txwlen = s.txwlen := rfl
@[simp] theorem txOut_rxlen (bs : List Byte) : (txOut bs s).rxlen = s.rxlen := rfl
@[simp] theorem txOut_rxusz (bs : List Byte) : (txOut bs s).rxusz = s.rxusz := rfl
@[simp] theorem txOut_rxadr (bs : List Byte) : (txOut bs s).rxadr = s.rxadr := rfl
@[simp] theorem txOut_rxcmd (bs : List Byte) : (txOut bs s).rxcmd = s.rxcmd := rfl
@[simp] theorem txOut_rxplen (bs : List Byte) : (txOut bs s).rxplen = s.rxplen := rfl
@[simp] theorem txOut_csacc (bs : List Byte) : (txOut bs s).csacc = s.csacc := rfl
@[simp] theorem txOut_txpay (bs : List Byte) : (txOut bs s).txpay = s.txpay := rfl
@[simp] theorem txOut_txw (bs : List Byte) : (txOut bs s).txw = s.txw := rfl
@[simp] theorem txOut_rxb (bs : List Byte) : (txOut bs s).rxb = s.rxb := rfl
@[simp] theorem txOut_txs (bs : List Byte) : (txOut bs s).txs = s.txs ++ bs := rfl
@[simp] theorem txOut_encst (bs : List Byte) : (txOut bs s).encst = s.encst := rfl
@[simp] theorem txOut_decst (bs : List Byte) : (txOut bs s).decst = s.decst := rfl
@[simp] theorem txOut_pi (bs : List Byte) : (txOut bs s).pi = s.pi := rfl
@[simp] theorem txOut_rd (bs : List Byte) : (txOut bs s).rd = s.rd := rfl
@[simp] theorem txOut_wr (bs : List Byte) : (txOut bs s).wr = s.wr := rfl
@[simp] theorem txOut_dcnt (bs : List Byte) : (txOut bs s).dcnt = s.dcnt := rfl
@[simp] theorem txOut_inputs (bs : List Byte) : (txOut bs s).inputs = s.inputs := rfl
@[simp] theorem txOut_answers (bs : List Byte) : (txOut bs s).answers = s.answers := rfl
@[simp] theorem txOut_draws (bs : List Byte) : (txOut bs s).draws = s.draws := rfl
@[simp] theorem txOut_freeCtr (bs : List Byte) : (txOut bs s).freeCtr = s.freeCtr := rfl
@[simp] theorem txOut_portLog (bs : List Byte) : (txOut bs s).portLog = s.portLog := rfl
@[simp] theorem txOut_session (bs : List Byte) : (txOut bs s).session = s.session := rfl

/-! `afterAnswer` -/

@[simp] theorem afterAnswer_txrdy : (afterAnswer s).txrdy = s.txrdy := rfl
@[simp] theorem afterAnswer_rxarmed : (afterAnswer s).rxarmed = s.rxarmed := rfl
@[simp] theorem afterAnswer_rxdone : (afterAnswer s).rxdone = s.rxdone := rfl
@[simp] theorem afterAnswer_rxovf : (afterAnswer s).rxovf = s.rxovf := rfl
@[simp] theorem afterAnswer_rxvalid : (afterAnswer s).rxvalid = s.rxvalid := rfl
@[simp] theorem afterAnswer_err : (afterAnswer s).err = s.err := rfl
@[simp] theorem afterAnswer_txadr : (afterAnswer s).txadr = s.txadr := rfl
@[simp] theorem afterAnswer_txcmd : (afterAnswer s).txcmd = s.txcmd := rfl
@[simp] theorem afterAnswer_txlen : (afterAnswer s).txlen = s.txlen := rfl
@[simp] theorem afterAnswer_txwlen : (afterAnswer s).txwlen = s.txwlen := rfl
@[simp] theorem afterAnswer_rxlen : (afterAnswer s).rxlen = s.rxlen := rfl
@[simp] theorem afterAnswer_rxusz : (afterAnswer s).rxusz = s.rxusz := rfl
@[simp] theorem afterAnswer_rxadr : (afterAnswer s).rxadr = s.rxadr := rfl
@[simp] theorem afterAnswer_rxcmd : (afterAnswer s).rxcmd = s.rxcmd := rfl
@[simp] theorem afterAnswer_rxplen : (afterAnswer s).rxplen = s.rxplen := rfl
@[simp] theorem afterAnswer_csacc : (afterAnswer s).csacc = s.csacc := rfl
@[simp] theorem afterAnswer_txpay : (afterAnswer s).txpay = s.txpay := rfl
@[simp] theorem afterAnswer_txw : (afterAnswer s).txw = s.txw := rfl
@[simp] theorem afterAnswer_rxb : (afterAnswer s).rxb = s.rxb := rfl
@[simp] theorem afterAnswer_txs : (afterAnswer s).txs = s.txs := rfl
@[simp] theorem afterAnswer_encst : (afterAnswer s).encst = s.encst := rfl
@[simp] theorem afterAnswer_decst : (afterAnswer s).decst = s.decst := rfl
@[simp] theorem afterAnswer_pi : (afterAnswer s).pi = s.pi := rfl
@[simp] theorem afterAnswer_rd : (afterAnswer s).rd = s.rd := rfl
@[simp] theorem afterAnswer_wr : (afterAnswer s).wr = s.wr := rfl
@[simp] theorem afterAnswer_dcnt : (afterAnswer s).dcnt = s.dcnt := rfl
@[simp] theorem afterAnswer_inputs : (afterAnswer s).inputs = s.inputs := rfl
@[simp] theorem afterAnswer_answers : (afterAnswer s).answers = s.answers.tail := rfl
@[simp] theorem afterAnswer_draws : (afterAnswer s).draws = s.draws + 1 := rfl
@[simp] theorem afterAnswer_freeCtr : (afterAnswer s).freeCtr = s.freeCtr := rfl
@[simp] theorem afterAnswer_portLog : (afterAnswer s).portLog = s.portLog := rfl
@[simp] theorem afterAnswer_session : (afterAnswer s).session = s.session := rfl

/-! `endWrite` -/

@[simp] theorem endWrite_txrdy (k m : Nat) : (endWrite k m s).txrdy = s.txrdy := rfl
@[simp] theorem endWrite_rxarmed (k m : Nat) : (endWrite k m s).rxarmed = s.rxarmed := rfl
@[simp] theorem endWrite_rxdone (k m : Nat) : (endWrite k m s).rxdone = s.rxdone := rfl
@[simp] theorem endWrite_rxovf (k m : Nat) : (endWrite k m s).rxovf = s.rxovf := rfl
@[simp] theorem endWrite_rxvalid (k m : Nat) : (endWrite k m s).rxvalid = s.rxvalid := rfl
@[simp] theorem endWrite_err (k m : Nat) : (endWrite k m s).err = if k < m then .transportError else .none := rfl
@[simp] theorem endWrite_txadr (k m : Nat) : (endWrite k m s).txadr = s.txadr := rfl
@[simp] theorem endWrite_txcmd (k m : Nat) : (endWrite k m s).txcmd = s.txcmd := rfl
@[simp] theorem endWrite_txlen (k m : Nat) : (endWrite k m s).txlen = s.txlen := rfl
@[simp] theorem endWrite_txwlen (k m : Nat) : (endWrite k m s).txwlen = s.txwlen := rfl
@[simp] theorem endWrite_rxlen (k m : Nat) : (endWrite k m s).rxlen = s.rxlen := rfl
@[simp] theorem endWrite_rxusz (k m : Nat) : (endWrite k m s).rxusz = s.rxusz := rfl
@[simp] theorem endWrite_rxadr (k m : Nat) : (endWrite k m s).rxadr = s.rxadr := rfl
@[simp] theorem endWrite_rxcmd (k m : Nat) : (endWrite k m s).rxcmd = s.rxcmd := rfl
@[simp] theorem endWrite_rxplen (k m : Nat) : (endWrite k m s).rxplen = s.rxplen := rfl
@[simp] theorem endWrite_csacc (k m : Nat) : (endWrite k m s).csacc = s.csacc := rfl
@[simp] theorem endWrite_txpay (k m : Nat) : (endWrite k m s).txpay = s.txpay := rfl
@[simp] theorem endWrite_txw (k m : Nat) : (endWrite k m s).txw = s.txw := rfl
@[simp] theorem endWrite_rxb (k m : Nat) : (endWrite k m s).rxb = s.rxb := rfl
@[simp] theorem endWrite_txs (k m : Nat) : (endWrite k m s).txs = s.txs := rfl
@[simp] theorem endWrite_encst (k m : Nat) : (endWrite k m s).encst = if k < m then .idle else s.encst := rfl
@[simp] theorem endWrite_decst (k m : Nat) : (endWrite k m s).decst = if k < m then .idle else s.decst := rfl
@[simp] theorem endWrite_pi (k m : Nat) : (endWrite k m s).pi = s.pi := rfl
@[simp] theorem endWrite_rd (k m : Nat) : (endWrite k m s).rd = s.rd := rfl
@[simp] theorem endWrite_wr (k m : Nat) : (endWrite k m s).wr = s.wr := rfl
@[simp] theorem endWrite_dcnt (k m : Nat) : (endWrite k m s).dcnt = s.dcnt := rfl
@[simp] theorem endWrite_inputs (k m : Nat) : (endWrite k m s).inputs = s.inputs := rfl
@[simp] theorem endWrite_answers (k m : Nat) : (endWrite k m s).answers = s.answers := rfl
@[simp] theorem endWrite_draws (k m : Nat) : (endWrite k m s).draws = s.draws := rfl
@[simp] theorem endWrite_freeCtr (k m : Nat) : (endWrite k m s).freeCtr = s.freeCtr := rfl
@[simp] theorem endWrite_portLog (k m : Nat) : (endWrite k m s).portLog = s.portLog := rfl
@[simp] theorem endWrite_session (k m : Nat) : (endWrite k m s).session = s.session := rfl

/-! `unspecifyRxb` -/

@[simp] theorem unspecifyRxb_txrdy : (unspecifyRxb s).txrdy = s.txrdy := rfl
@[simp] theorem unspecifyRxb_rxarmed : (unspecifyRxb s).rxarmed = s.rxarmed := rfl
@[simp] theorem unspecifyRxb_rxdone : (unspecifyRxb s).rxdone = s.rxdone := rfl
@[simp] theorem unspecifyRxb_rxovf : (unspecifyRxb s).rxovf = s.rxovf := rfl
@[simp] theorem unspecifyRxb_rxvalid : (unspecifyRxb s).rxvalid = s.rxvalid := rfl
@[simp] theorem unspecifyRxb_err : (unspecifyRxb s).err = s.err := rfl
@[simp] theorem unspecifyRxb_txadr : (unspecifyRxb s).txadr = s.txadr := rfl
@[simp] theorem unspecifyRxb_txcmd : (unspecifyRxb s).txcmd = s.txcmd := rfl
@[simp] theorem unspecifyRxb_txlen : (unspecifyRxb s).txlen = s.txlen := rfl
@[simp] theorem unspecifyRxb_txwlen : (unspecifyRxb s).txwlen = s.txwlen := rfl
@[simp] theorem unspecifyRxb_rxlen : (unspecifyRxb s).rxlen = s.rxlen := rfl
@[simp] theorem unspecifyRxb_rxusz : (unspecifyRxb s).rxusz = s.rxusz := rfl
@[simp] theorem unspecifyRxb_rxadr : (unspecifyRxb s).rxadr = s.rxadr := rfl
@[simp] theorem unspecifyRxb_rxcmd : (unspecifyRxb s).rxcmd = s.rxcmd := rfl
@[simp] theorem unspecifyRxb_rxplen : (unspecifyRxb s).rxplen = s.rxplen := rfl
@[simp] theorem unspecifyRxb_csacc : (unspecifyRxb s).csacc = s.csacc := rfl
@[simp] theorem unspecifyRxb_txpay : (unspecifyRxb s).txpay = s.txpay := rfl
@[simp] theorem unspecifyRxb_txw : (unspecifyRxb s).txw = s.txw := rfl
@[simp] theorem unspecifyRxb_rxb : (unspecifyRxb s).rxb = Memory.writeRange s.rxb 0 (freeBytes s.freeCtr s.rxlen.toNat) := rfl
@[simp] theorem unspecifyRxb_txs : (unspecifyRxb s).txs = s.txs := rfl
@[simp] theorem unspecifyRxb_encst : (unspecifyRxb s).encst = s.encst := rfl
@[simp] theorem unspecifyRxb_decst : (unspecifyRxb s).decst = s.decst := rfl
@[simp] theorem unspecifyRxb_pi : (unspecifyRxb s).pi = s.pi := rfl
@[simp] theorem unspecifyRxb_rd : (unspecifyRxb s).rd = s.rd := rfl
@[simp] theorem unspecifyRxb_wr : (unspecifyRxb s).wr = s.wr := rfl
@[simp] theorem unspecifyRxb_dcnt : (unspecifyRxb s).dcnt = s.dcnt := rfl
@[simp] theorem unspecifyRxb_inputs : (unspecifyRxb s).inputs = s.inputs := rfl
@[simp] theorem unspecifyRxb_answers : (unspecifyRxb s).answers = s.answers := rfl
@[simp] theorem unspecifyRxb_draws : (unspecifyRxb s).draws = s.draws := rfl
@[simp] theorem unspecifyRxb_freeCtr : (unspecifyRxb s).freeCtr = s.freeCtr + s.rxlen.toNat := rfl
@[simp] theorem unspecifyRxb_portLog : (unspecifyRxb s).portLog = s.portLog := rfl
@[simp] theorem unspecifyRxb_session : (unspecifyRxb s).session = s.session := rfl

/-! `countByte` -/

@[simp] theorem countByte_txrdy (b : Byte) : (countByte b s).txrdy = s.txrdy := rfl
@[simp] theorem countByte_rxarmed (b : Byte) : (countByte b s).rxarmed = s.rxarmed := rfl
@[simp] theorem countByte_rxdone (b : Byte) : (countByte b s).rxdone = s.rxdone := rfl
@[simp] theorem countByte_rxovf (b : Byte) : (countByte b s).rxovf = s.rxovf := rfl
@[simp] theorem countByte_rxvalid (b : Byte) : (countByte b s).rxvalid = s.rxvalid := rfl
@[simp] theorem countByte_err (b : Byte) : (countByte b s).err = s.err := rfl
@[simp] theorem countByte_txadr (b : Byte) : (countByte b s).txadr = s.txadr := rfl
@[simp] theorem countByte_txcmd (b : Byte) : (countByte b s).txcmd = s.txcmd := rfl
@[simp] theorem countByte_txlen (b : Byte) : (countByte b s).txlen = s.txlen := rfl
@[simp] theorem countByte_txwlen (b : Byte) : (countByte b s).txwlen = s.txwlen := rfl
@[simp] theorem countByte_rxlen (b : Byte) : (countByte b s).rxlen = s.rxlen + 1 := rfl
@[simp] theorem countByte_rxusz (b : Byte) : (countByte b s).rxusz = s.rxusz := rfl
@[simp] theorem countByte_rxadr (b : Byte) : (countByte b s).rxadr = s.rxadr := rfl
@[simp] theorem countByte_rxcmd (b : Byte) : (countByte b s).rxcmd = s.rxcmd := rfl
@[simp] theorem countByte_rxplen (b : Byte) : (countByte b s).rxplen = s.rxplen := rfl
@[simp] theorem countByte_csacc (b : Byte) : (countByte b s).csacc = s.csacc := rfl
@[simp] theorem countByte_txpay (b : Byte) : (countByte b s).txpay = s.txpay := rfl
@[simp] theorem countByte_txw (b : Byte) : (countByte b s).txw = s.txw := rfl
@[simp] theorem countByte_rxb (b : Byte) : (countByte b s).rxb = s.rxb := rfl
@[simp] theorem countByte_txs (b : Byte) : (countByte b s).txs = s.txs := rfl
@[simp] theorem countByte_encst (b : Byte) : (countByte b s).encst = s.encst := rfl
@[simp] theorem countByte_decst (b : Byte) : (countByte b s).decst = s.decst := rfl
@[simp] theorem countByte_pi (b : Byte) : (countByte b s).pi = s.pi := rfl
@[simp] theorem countByte_rd (b : Byte) : (countByte b s).rd = s.rd := rfl
@[simp] theorem countByte_wr (b : Byte) : (countByte b s).wr = s.wr := rfl
@[simp] theorem countByte_dcnt (b : Byte) : (countByte b s).dcnt = if b = Config.delim then s.dcnt + 1 else s.dcnt := rfl
@[simp] theorem countByte_inputs (b : Byte) : (countByte b s).inputs = s.inputs := rfl
@[simp] theorem countByte_answers (b : Byte) : (countByte b s).answers = s.answers := rfl
@[simp] theorem countByte_draws (b : Byte) : (countByte b s).draws = s.draws := rfl
@[simp] theorem countByte_freeCtr (b : Byte) : (countByte b s).freeCtr = s.freeCtr := rfl
@[simp] theorem countByte_portLog (b : Byte) : (countByte b s).portLog = s.portLog := rfl
@[simp] theorem countByte_session (b : Byte) : (countByte b s).session = s.session := rfl

/-! `encodeEnd` -/

@[simp] theorem encodeEnd_txrdy : (encodeEnd s).txrdy = true := rfl
@[simp] theorem encodeEnd_rxarmed : (encodeEnd s).rxarmed = s.rxarmed := rfl
@[simp] theorem encodeEnd_rxdone : (encodeEnd s).rxdone = s.rxdone := rfl
@[simp] theorem encodeEnd_rxovf : (encodeEnd s).rxovf = s.rxovf := rfl
@[simp] theorem encodeEnd_rxvalid : (encodeEnd s).rxvalid = s.rxvalid := rfl
@[simp] theorem encodeEnd_err : (encodeEnd s).err = .none := rfl
@[simp] theorem encodeEnd_txadr : (encodeEnd s).txadr = s.txadr := rfl
@[simp] theorem encodeEnd_txcmd : (encodeEnd s).txcmd = s.txcmd := rfl
@[simp] theorem encodeEnd_txlen : (encodeEnd s).txlen = s.txlen := rfl
@[simp] theorem encodeEnd_txwlen : (encodeEnd s).txwlen = s.txwlen := rfl
@[simp] theorem encodeEnd_rxlen : (encodeEnd s).rxlen = s.rxlen := rfl
@[simp] theorem encodeEnd_rxusz : (encodeEnd s).rxusz = s.rxusz := rfl
@[simp] theorem encodeEnd_rxadr : (encodeEnd s).rxadr = s.rxadr := rfl
@[simp] theorem encodeEnd_rxcmd : (encodeEnd s).rxcmd = s.rxcmd := rfl
@[simp] theorem encodeEnd_rxplen : (encodeEnd s).rxplen = s.rxplen := rfl
@[simp] theorem encodeEnd_csacc : (encodeEnd s).csacc = s.csacc := rfl
@[simp] theorem encodeEnd_txpay : (encodeEnd s).txpay = s.txpay := rfl
@[simp] theorem encodeEnd_txw : (encodeEnd s).txw = s.txw := rfl
@[simp] theorem encodeEnd_rxb : (encodeEnd s).rxb = s.rxb := rfl
@[simp] theorem encodeEnd_txs : (encodeEnd s).txs = s.txs := rfl
@[simp] theorem encodeEnd_encst : (encodeEnd s).encst = .idle := rfl
@[simp] theorem encodeEnd_decst : (encodeEnd s).decst = s.decst := rfl
@[simp] theorem encodeEnd_pi : (encodeEnd s).pi = s.pi := rfl
@[simp] theorem encodeEnd_rd : (encodeEnd s).rd = s.rd := rfl
@[simp] theorem encodeEnd_wr : (encodeEnd s).wr = s.wr := rfl
@[simp] theorem encodeEnd_dcnt : (encodeEnd s).dcnt = s.dcnt := rfl
@[simp] theorem encodeEnd_inputs : (encodeEnd s).inputs = s.inputs := rfl
@[simp] theorem encodeEnd_answers : (encodeEnd s).answers = s.answers := rfl
@[simp] theorem encodeEnd_draws : (encodeEnd s).draws = s.draws := rfl
@[simp] theorem encodeEnd_freeCtr : (encodeEnd s).freeCtr = s.freeCtr := rfl
@[simp] theorem encodeEnd_portLog : (encodeEnd s).portLog = s.portLog := rfl
@[simp] theorem encodeEnd_session : (encodeEnd s).session = s.session := rfl

/-! `decodeStart` -/

@[simp] theorem decodeStart_txrdy : (decodeStart s).txrdy = s.txrdy := rfl
@[simp] theorem decodeStart_rxarmed : (decodeStart s).rxarmed = s.rxarmed := rfl
@[simp] theorem decodeStart_rxdone : (decodeStart s).rxdone = s.rxdone := rfl
@[simp] theorem decodeStart_rxovf : (decodeStart s).rxovf = s.rxovf := rfl
@[simp] theorem decodeStart_rxvalid : (decodeStart s).rxvalid = false := rfl
@[simp] theorem decodeStart_err : (decodeStart s).err = s.err := rfl
@[simp] theorem decodeStart_txadr : (decodeStart s).txadr = s.txadr := rfl
@[simp] theorem decodeStart_txcmd : (decodeStart s).txcmd = s.txcmd := rfl
@[simp] theorem decodeStart_txlen : (decodeStart s).txlen = s.txlen := rfl
@[simp] theorem decodeStart_txwlen : (decodeStart s).txwlen = s.txwlen := rfl
@[simp] theorem decodeStart_rxlen : (decodeStart s).rxlen = s.rxlen := rfl
@[simp] theorem decodeStart_rxusz : (decodeStart s).rxusz = 0 := rfl
@[simp] theorem decodeStart_rxadr : (decodeStart s).rxadr = s.rxadr := rfl
@[simp] theorem decodeStart_rxcmd : (decodeStart s).rxcmd = s.rxcmd := rfl
@[simp] theorem decodeStart_rxplen : (decodeStart s).rxplen = s.rxplen := rfl
@[simp] theorem decodeStart_csacc : (decodeStart s).csacc = 0 := rfl
@[simp] theorem decodeStart_txpay : (decodeStart s).txpay = s.txpay := rfl
@[simp] theorem decodeStart_txw : (decodeStart s).txw = s.txw := rfl
@[simp] theorem decodeStart_rxb : (decodeStart s).rxb = s.rxb := rfl
@[simp] theorem decodeStart_txs : (decodeStart s).txs = s.txs := rfl
@[simp] theorem decodeStart_encst : (decodeStart s).encst = s.encst := rfl
@[simp] theorem decodeStart_decst : (decodeStart s).decst = s.decst := rfl
@[simp] theorem decodeStart_pi : (decodeStart s).pi = s.pi := rfl
@[simp] theorem decodeStart_rd : (decodeStart s).rd = s.rd := rfl
@[simp] theorem decodeStart_wr : (decodeStart s).wr = s.wr := rfl
@[simp] theorem decodeStart_dcnt : (decodeStart s).dcnt = s.dcnt := rfl
@[simp] theorem decodeStart_inputs : (decodeStart s).inputs = s.inputs := rfl
@[simp] theorem decodeStart_answers : (decodeStart s).answers = s.answers := rfl
@[simp] theorem decodeStart_draws : (decodeStart s).draws = s.draws := rfl
@[simp] theorem decodeStart_freeCtr : (decodeStart s).freeCtr = s.freeCtr := rfl
@[simp] theorem decodeStart_portLog : (decodeStart s).portLog = s.portLog := rfl
@[simp] theorem decodeStart_session : (decodeStart s).session = s.session := rfl

/-! `answer` -/

@[simp] theorem answer_txrdy (v : PortValue) : (answer v s).txrdy = s.txrdy := rfl
@[simp] theorem answer_rxarmed (v : PortValue) : (answer v s).rxarmed = s.rxarmed := rfl
@[simp] theorem answer_rxdone (v : PortValue) : (answer v s).rxdone = s.rxdone := rfl
@[simp] theorem answer_rxovf (v : PortValue) : (answer v s).rxovf = s.rxovf := rfl
@[simp] theorem answer_rxvalid (v : PortValue) : (answer v s).rxvalid = s.rxvalid := rfl
@[simp] theorem answer_err (v : PortValue) : (answer v s).err = s.err := rfl
@[simp] theorem answer_txadr (v : PortValue) : (answer v s).txadr = s.txadr := rfl
@[simp] theorem answer_txcmd (v : PortValue) : (answer v s).txcmd = s.txcmd := rfl
@[simp] theorem answer_txlen (v : PortValue) : (answer v s).txlen = s.txlen := rfl
@[simp] theorem answer_txwlen (v : PortValue) : (answer v s).txwlen = s.txwlen := rfl
@[simp] theorem answer_rxlen (v : PortValue) : (answer v s).rxlen = s.rxlen := rfl
@[simp] theorem answer_rxusz (v : PortValue) : (answer v s).rxusz = s.rxusz := rfl
@[simp] theorem answer_rxadr (v : PortValue) : (answer v s).rxadr = s.rxadr := rfl
@[simp] theorem answer_rxcmd (v : PortValue) : (answer v s).rxcmd = s.rxcmd := rfl
@[simp] theorem answer_rxplen (v : PortValue) : (answer v s).rxplen = s.rxplen := rfl
@[simp] theorem answer_csacc (v : PortValue) : (answer v s).csacc = s.csacc := rfl
@[simp] theorem answer_txpay (v : PortValue) : (answer v s).txpay = s.txpay := rfl
@[simp] theorem answer_txw (v : PortValue) : (answer v s).txw = s.txw := rfl
@[simp] theorem answer_rxb (v : PortValue) : (answer v s).rxb = s.rxb := rfl
@[simp] theorem answer_txs (v : PortValue) : (answer v s).txs = s.txs := rfl
@[simp] theorem answer_encst (v : PortValue) : (answer v s).encst = s.encst := rfl
@[simp] theorem answer_decst (v : PortValue) : (answer v s).decst = s.decst := rfl
@[simp] theorem answer_pi (v : PortValue) : (answer v s).pi = s.pi := rfl
@[simp] theorem answer_rd (v : PortValue) : (answer v s).rd = s.rd := rfl
@[simp] theorem answer_wr (v : PortValue) : (answer v s).wr = s.wr := rfl
@[simp] theorem answer_dcnt (v : PortValue) : (answer v s).dcnt = s.dcnt := rfl
@[simp] theorem answer_inputs (v : PortValue) : (answer v s).inputs = s.inputs := rfl
@[simp] theorem answer_answers (v : PortValue) : (answer v s).answers = s.answers := rfl
@[simp] theorem answer_draws (v : PortValue) : (answer v s).draws = s.draws := rfl
@[simp] theorem answer_freeCtr (v : PortValue) : (answer v s).freeCtr = s.freeCtr := rfl
@[simp] theorem answer_portLog (v : PortValue) : (answer v s).portLog = s.portLog ++ [v] := rfl
@[simp] theorem answer_session (v : PortValue) : (answer v s).session = s.session := rfl

/-! `sessionGo` -/

@[simp] theorem sessionGo_txrdy (acts : List HostAct) : (sessionGo acts s).txrdy = s.txrdy := rfl
@[simp] theorem sessionGo_rxarmed (acts : List HostAct) : (sessionGo acts s).rxarmed = s.rxarmed := rfl
@[simp] theorem sessionGo_rxdone (acts : List HostAct) : (sessionGo acts s).rxdone = s.rxdone := rfl
@[simp] theorem sessionGo_rxovf (acts : List HostAct) : (sessionGo acts s).rxovf = s.rxovf := rfl
@[simp] theorem sessionGo_rxvalid (acts : List HostAct) : (sessionGo acts s).rxvalid = s.rxvalid := rfl
@[simp] theorem sessionGo_err (acts : List HostAct) : (sessionGo acts s).err = s.err := rfl
@[simp] theorem sessionGo_txadr (acts : List HostAct) : (sessionGo acts s).txadr = s.txadr := rfl
@[simp] theorem sessionGo_txcmd (acts : List HostAct) : (sessionGo acts s).txcmd = s.txcmd := rfl
@[simp] theorem sessionGo_txlen (acts : List HostAct) : (sessionGo acts s).txlen = s.txlen := rfl
@[simp] theorem sessionGo_txwlen (acts : List HostAct) : (sessionGo acts s).txwlen = s.txwlen := rfl
@[simp] theorem sessionGo_rxlen (acts : List HostAct) : (sessionGo acts s).rxlen = s.rxlen := rfl
@[simp] theorem sessionGo_rxusz (acts : List HostAct) : (sessionGo acts s).rxusz = s.rxusz := rfl
@[simp] theorem sessionGo_rxadr (acts : List HostAct) : (sessionGo acts s).rxadr = s.rxadr := rfl
@[simp] theorem sessionGo_rxcmd (acts : List HostAct) : (sessionGo acts s).rxcmd = s.rxcmd := rfl
@[simp] theorem sessionGo_rxplen (acts : List HostAct) : (sessionGo acts s).rxplen = s.rxplen := rfl
@[simp] theorem sessionGo_csacc (acts : List HostAct) : (sessionGo acts s).csacc = s.csacc := rfl
@[simp] theorem sessionGo_txpay (acts : List HostAct) : (sessionGo acts s).txpay = s.txpay := rfl
@[simp] theorem sessionGo_txw (acts : List HostAct) : (sessionGo acts s).txw = s.txw := rfl
@[simp] theorem sessionGo_rxb (acts : List HostAct) : (sessionGo acts s).rxb = s.rxb := rfl
@[simp] theorem sessionGo_txs (acts : List HostAct) : (sessionGo acts s).txs = s.txs := rfl
@[simp] theorem sessionGo_encst (acts : List HostAct) : (sessionGo acts s).encst = s.encst := rfl
@[simp] theorem sessionGo_decst (acts : List HostAct) : (sessionGo acts s).decst = s.decst := rfl
@[simp] theorem sessionGo_pi (acts : List HostAct) : (sessionGo acts s).pi = s.pi := rfl
@[simp] theorem sessionGo_rd (acts : List HostAct) : (sessionGo acts s).rd = s.rd := rfl
@[simp] theorem sessionGo_wr (acts : List HostAct) : (sessionGo acts s).wr = s.wr := rfl
@[simp] theorem sessionGo_dcnt (acts : List HostAct) : (sessionGo acts s).dcnt = s.dcnt := rfl
@[simp] theorem sessionGo_inputs (acts : List HostAct) : (sessionGo acts s).inputs = s.inputs := rfl
@[simp] theorem sessionGo_answers (acts : List HostAct) : (sessionGo acts s).answers = s.answers := rfl
@[simp] theorem sessionGo_draws (acts : List HostAct) : (sessionGo acts s).draws = s.draws := rfl
@[simp] theorem sessionGo_freeCtr (acts : List HostAct) : (sessionGo acts s).freeCtr = s.freeCtr := rfl
@[simp] theorem sessionGo_portLog (acts : List HostAct) : (sessionGo acts s).portLog = s.portLog := rfl
@[simp] theorem sessionGo_session (acts : List HostAct) : (sessionGo acts s).session = { s.session with todo := acts } := rfl

/-! `sessionReturn` -/

@[simp] theorem sessionReturn_txrdy (r : SessionResult) : (sessionReturn r s).txrdy = s.txrdy := rfl
@[simp] theorem sessionReturn_rxarmed (r : SessionResult) : (sessionReturn r s).rxarmed = s.rxarmed := rfl
@[simp] theorem sessionReturn_rxdone (r : SessionResult) : (sessionReturn r s).rxdone = s.rxdone := rfl
@[simp] theorem sessionReturn_rxovf (r : SessionResult) : (sessionReturn r s).rxovf = s.rxovf := rfl
@[simp] theorem sessionReturn_rxvalid (r : SessionResult) : (sessionReturn r s).rxvalid = s.rxvalid := rfl
@[simp] theorem sessionReturn_err (r : SessionResult) : (sessionReturn r s).err = s.err := rfl
@[simp] theorem sessionReturn_txadr (r : SessionResult) : (sessionReturn r s).txadr = s.txadr := rfl
@[simp] theorem sessionReturn_txcmd (r : SessionResult) : (sessionReturn r s).txcmd = s.txcmd := rfl
@[simp] theorem sessionReturn_txlen (r : SessionResult) : (sessionReturn r s).txlen = s.txlen := rfl
@[simp] theorem sessionReturn_txwlen (r : SessionResult) : (sessionReturn r s).txwlen = s.txwlen := rfl
@[simp] theorem sessionReturn_rxlen (r : SessionResult) : (sessionReturn r s).rxlen = s.rxlen := rfl
@[simp] theorem sessionReturn_rxusz (r : SessionResult) : (sessionReturn r s).rxusz = s.rxusz := rfl
@[simp] theorem sessionReturn_rxadr (r : SessionResult) : (sessionReturn r s).rxadr = s.rxadr := rfl
@[simp] theorem sessionReturn_rxcmd (r : SessionResult) : (sessionReturn r s).rxcmd = s.rxcmd := rfl
@[simp] theorem sessionReturn_rxplen (r : SessionResult) : (sessionReturn r s).rxplen = s.rxplen := rfl
@[simp] theorem sessionReturn_csacc (r : SessionResult) : (sessionReturn r s).csacc = s.csacc := rfl
@[simp] theorem sessionReturn_txpay (r : SessionResult) : (sessionReturn r s).txpay = s.txpay := rfl
@[simp] theorem sessionReturn_txw (r : SessionResult) : (sessionReturn r s).txw = s.txw := rfl
@[simp] theorem sessionReturn_rxb (r : SessionResult) : (sessionReturn r s).rxb = s.rxb := rfl
@[simp] theorem sessionReturn_txs (r : SessionResult) : (sessionReturn r s).txs = s.txs := rfl
@[simp] theorem sessionReturn_encst (r : SessionResult) : (sessionReturn r s).encst = s.encst := rfl
@[simp] theorem sessionReturn_decst (r : SessionResult) : (sessionReturn r s).decst = s.decst := rfl
@[simp] theorem sessionReturn_pi (r : SessionResult) : (sessionReturn r s).pi = s.pi := rfl
@[simp] theorem sessionReturn_rd (r : SessionResult) : (sessionReturn r s).rd = s.rd := rfl
@[simp] theorem sessionReturn_wr (r : SessionResult) : (sessionReturn r s).wr = s.wr := rfl
@[simp] theorem sessionReturn_dcnt (r : SessionResult) : (sessionReturn r s).dcnt = s.dcnt := rfl
@[simp] theorem sessionReturn_inputs (r : SessionResult) : (sessionReturn r s).inputs = s.inputs := rfl
@[simp] theorem sessionReturn_answers (r : SessionResult) : (sessionReturn r s).answers = s.answers := rfl
@[simp] theorem sessionReturn_draws (r : SessionResult) : (sessionReturn r s).draws = s.draws := rfl
@[simp] theorem sessionReturn_freeCtr (r : SessionResult) : (sessionReturn r s).freeCtr = s.freeCtr := rfl
@[simp] theorem sessionReturn_portLog (r : SessionResult) : (sessionReturn r s).portLog = s.portLog := rfl
@[simp] theorem sessionReturn_session (r : SessionResult) : (sessionReturn r s).session = { s.session with todo := [], result := some r } := rfl

/-! `State.setMem` and `State.mem` -/

@[simp] theorem mem_txpay : s.mem .txpay = s.txpay := rfl
@[simp] theorem setMem_txpay (m : Memory) : s.setMem .txpay m = { s with txpay := m } := rfl
@[simp] theorem mem_txw : s.mem .txw = s.txw := rfl
@[simp] theorem setMem_txw (m : Memory) : s.setMem .txw m = { s with txw := m } := rfl
@[simp] theorem mem_rxb : s.mem .rxb = s.rxb := rfl
@[simp] theorem setMem_rxb (m : Memory) : s.setMem .rxb m = { s with rxb := m } := rfl

/-! `resetBlock` and `hardwareReset`: what is not the block's stays -/

@[simp] theorem resetBlock_inputs : (resetBlock s).inputs = s.inputs := rfl
@[simp] theorem hardwareReset_inputs : (hardwareReset s).inputs = s.inputs := rfl
@[simp] theorem resetBlock_answers : (resetBlock s).answers = s.answers := rfl
@[simp] theorem hardwareReset_answers : (hardwareReset s).answers = s.answers := rfl
@[simp] theorem resetBlock_draws : (resetBlock s).draws = s.draws := rfl
@[simp] theorem hardwareReset_draws : (hardwareReset s).draws = s.draws := rfl
@[simp] theorem resetBlock_freeCtr : (resetBlock s).freeCtr = s.freeCtr := rfl
@[simp] theorem hardwareReset_freeCtr : (hardwareReset s).freeCtr = s.freeCtr := rfl
@[simp] theorem resetBlock_portLog : (resetBlock s).portLog = s.portLog := rfl
@[simp] theorem hardwareReset_portLog : (hardwareReset s).portLog = s.portLog := rfl
@[simp] theorem resetBlock_session : (resetBlock s).session = s.session := rfl
@[simp] theorem hardwareReset_session : (hardwareReset s).session = s.session := rfl
@[simp] theorem resetBlock_txs : (resetBlock s).txs = s.txs := rfl
@[simp] theorem hardwareReset_txs : (hardwareReset s).txs = [] := rfl

end Sys2Proof.Machine
end

