-- ==== Sys2Proof/Laws/Memory.lean ====
section
/-! SUPPORT. The laws of the buffers: a read after a write, the canonical form, and byte ranges. -/

namespace Sys2Proof.Machine

@[simp] theorem Memory.read_nil (i : Nat) : Memory.read [] i = none := rfl

/-- A write changes the one byte it names. -/
theorem Memory.read_write (m : Memory) (i j : Nat) (v : Byte) :
    Memory.read (Memory.write m i v) j = if j = i then some v else Memory.read m j := by
  induction m with
  | nil =>
    rcases eq_or_ne j i with rfl | h
    · simp [Memory.write, Memory.read]
    · simp [Memory.write, Memory.read, Memory.unlisted, h, h.symm]
  | cons c m ih =>
    obtain ⟨a, b⟩ := c
    by_cases hlt : i < a
    · simp only [Memory.write, hlt, if_true, Memory.read, eq_comm]
    · by_cases heq : i = a
      · subst heq
        rcases eq_or_ne j i with rfl | h
        · simp [Memory.write, Memory.read]
        · simp [Memory.write, Memory.read, h, h.symm]
      · simp only [Memory.write, hlt, heq, if_false, Memory.read, ih]
        by_cases haj : a = j
        · subst haj
          simp [Ne.symm heq]
        · simp [haj]

@[simp] theorem Memory.read_write_same (m : Memory) (i : Nat) (v : Byte) : Memory.read (Memory.write m i v) i = some v := by
  simp [Memory.read_write]

theorem Memory.read_write_other (m : Memory) {i j : Nat} (v : Byte) (h : j ≠ i) :
    Memory.read (Memory.write m i v) j = Memory.read m j := by
  simp [Memory.read_write, h]

/-- Every entry after a write is the new one or an old one. -/
theorem Memory.mem_write {m : Memory} {i : Nat} {v : Byte} {c : Host.Cell} (h : c ∈ Memory.write m i v) :
    c = (i, v) ∨ c ∈ m := by
  induction m with
  | nil => simpa [Memory.write] using h
  | cons d m ih =>
    obtain ⟨a, b⟩ := d
    unfold Memory.write at h
    split at h
    · simpa using h
    · split at h
      · rcases List.mem_cons.1 h with h | h
        · exact .inl h
        · exact .inr (List.mem_cons_of_mem _ h)
      · rcases List.mem_cons.1 h with h | h
        · exact .inr (h ▸ List.mem_cons_self)
        · exact (ih h).imp_right (List.mem_cons_of_mem _)

/-- A write keeps the canonical form. -/
theorem Memory.wf_write {m : Memory} (h : Memory.wf m) (i : Nat) (v : Byte) : Memory.wf (Memory.write m i v) := by
  induction m with
  | nil => simp [Memory.write]
  | cons d m ih =>
    obtain ⟨a, b⟩ := d
    have hd := List.pairwise_cons.1 h
    unfold Memory.write
    split
    · rename_i hlt
      refine List.pairwise_cons.2 ⟨fun c hc => ?_, h⟩
      rcases List.mem_cons.1 hc with rfl | hc
      · exact hlt
      · exact lt_trans hlt (hd.1 c hc)
    · split
      · rename_i heq
        exact List.pairwise_cons.2 ⟨fun c hc => heq ▸ hd.1 c hc, hd.2⟩
      · rename_i hlt heq
        refine List.pairwise_cons.2 ⟨fun c hc => ?_, ih hd.2⟩
        rcases Memory.mem_write hc with rfl | hc
        · exact lt_of_le_of_ne (not_lt.1 hlt) (Ne.symm heq)
        · exact hd.1 c hc

/-- An index below every entry is not listed. -/
theorem Memory.read_of_lt {m : Memory} {i : Nat} (h : ∀ c ∈ m, i < c.1) : Memory.read m i = none := by
  induction m with
  | nil => rfl
  | cons d m ih =>
    obtain ⟨a, b⟩ := d
    have ha : i < a := h (a, b) List.mem_cons_self
    simpa [Memory.read, Nat.ne_of_gt ha] using ih fun c hc => h c (List.mem_cons_of_mem _ hc)

/-- Writing what is already there changes nothing, in the canonical form. -/
theorem Memory.write_read {m : Memory} (hm : Memory.wf m) {i : Nat} {v : Byte} (h : Memory.read m i = some v) :
    Memory.write m i v = m := by
  induction m with
  | nil => cases h
  | cons d m ih =>
    obtain ⟨a, b⟩ := d
    have hd := List.pairwise_cons.1 hm
    by_cases hai : a = i
    · subst hai
      simp only [Memory.read, if_true, Option.some.injEq] at h
      simp [Memory.write, h]
    · simp only [Memory.read, hai, if_false] at h
      have hlt : ¬ i < a := fun hia => by
        rw [Memory.read_of_lt fun c hc => lt_trans hia (hd.1 c hc)] at h
        cases h
      simp [Memory.write, hlt, Ne.symm hai, ih hd.2 h]

theorem Memory.mem_writeRange {bs : List Byte} {m : Memory} {i : Nat} {c : Host.Cell}
    (h : c ∈ Memory.writeRange m i bs) : (i ≤ c.1 ∧ c.1 < i + bs.length) ∨ c ∈ m := by
  induction bs generalizing m i with
  | nil => exact .inr h
  | cons b bs ih =>
    rcases ih h with ⟨h1, h2⟩ | h
    · exact .inl ⟨by omega, by simp only [List.length_cons]; omega⟩
    · rcases Memory.mem_write h with rfl | h
      · exact .inl ⟨le_rfl, by simp⟩
      · exact .inr h

theorem Memory.wf_writeRange {bs : List Byte} {m : Memory} (h : Memory.wf m) (i : Nat) :
    Memory.wf (Memory.writeRange m i bs) := by
  induction bs generalizing m i with
  | nil => exact h
  | cons b bs ih => exact ih (Memory.wf_write h i b) (i + 1)

/-- A range written reads back, and nothing else changes. -/
theorem Memory.read_writeRange (bs : List Byte) (m : Memory) (i j : Nat) :
    Memory.read (Memory.writeRange m i bs) j =
      if i ≤ j ∧ j < i + bs.length then bs[j - i]? else Memory.read m j := by
  induction bs generalizing m i with
  | nil =>
    have : ¬ (i ≤ j ∧ j < i) := by omega
    simp [Memory.writeRange, this]
  | cons b bs ih =>
    simp only [Memory.writeRange, ih, List.length_cons, Memory.read_write]
    by_cases h1 : i + 1 ≤ j ∧ j < i + 1 + bs.length
    · have h2 : i ≤ j ∧ j < i + (bs.length + 1) := by omega
      obtain ⟨k, rfl⟩ : ∃ k, j = i + 1 + k := ⟨j - (i + 1), by omega⟩
      have h3 : i + 1 + k - i = k + 1 := by omega
      simp only [h1, h2, and_self, if_true, h3, List.getElem?_cons_succ]
      congr 1
      omega
    · simp only [h1, if_false]
      by_cases h2 : j = i
      · subst h2
        simp
      · have h3 : ¬ (i ≤ j ∧ j < i + (bs.length + 1)) := by omega
        simp only [h2, h3, if_false]

/-- What it is for a range to be written: every byte of it is there. -/
theorem Memory.readRange_eq_some {m : Memory} {i k : Nat} {bs : List Byte} :
    Memory.readRange m i k = some bs ↔ bs.length = k ∧ ∀ j < k, Memory.read m (i + j) = bs[j]? := by
  induction k generalizing i bs with
  | zero => cases bs <;> simp [Memory.readRange]
  | succ k ih =>
    cases hr : Memory.read m i with
    | none =>
      constructor
      · intro h
        simp [Memory.readRange, hr] at h
      · rintro ⟨hl, h⟩
        have h0 := h 0 (Nat.succ_pos k)
        rw [Nat.add_zero, hr] at h0
        have : bs = [] := by
          cases bs with
          | nil => rfl
          | cons b bs => simp at h0
        simp [this] at hl
    | some b =>
      cases bs with
      | nil =>
        simp only [Memory.readRange, hr]
        constructor
        · intro h
          split at h <;> simp at h
        · rintro ⟨hl, -⟩
          simp at hl
      | cons x xs =>
        have hiff : Memory.readRange m i (k + 1) = some (x :: xs) ↔
            b = x ∧ Memory.readRange m (i + 1) k = some xs := by
          cases h : Memory.readRange m (i + 1) k <;> simp [Memory.readRange, hr, h]
        rw [hiff, ih]
        constructor
        · rintro ⟨rfl, hl, h⟩
          refine ⟨by simp [hl], fun j hj => ?_⟩
          cases j with
          | zero => simpa using hr
          | succ j =>
            have := h j (by omega)
            rw [show i + (j + 1) = i + 1 + j by omega, this]
            simp
        · rintro ⟨hl, h⟩
          have h0 := h 0 (Nat.succ_pos k)
          rw [Nat.add_zero, hr] at h0
          refine ⟨by simpa using h0, by simpa using hl, fun j hj => ?_⟩
          have := h (j + 1) (by omega)
          rw [show i + 1 + j = i + (j + 1) by omega, this]
          simp

/-! ## The canonical form -/

/-- Reset memory is canonical. -/
theorem reset_mem_wf (sp : Space) : Memory.wf (State.reset.mem sp) := by
  cases sp <;> exact List.Pairwise.nil

/-- A store into a space keeps every space canonical. -/
theorem setMem_write_wf {s : State} (h : ∀ sp : Space, Memory.wf (s.mem sp)) (sp : Space) (i : Nat) (v : Byte) (sp' : Space) :
    Memory.wf ((s.setMem sp (Memory.write (s.mem sp) i v)).mem sp') := by
  cases sp <;> cases sp' <;> first | exact Memory.wf_write (h _) i v | exact h .txpay | exact h .txw | exact h .rxb

/-- So does making RXB[0..RXLEN) unspecified. -/
theorem unspecifyRxb_wf {s : State} (h : ∀ sp : Space, Memory.wf (s.mem sp)) (sp : Space) :
    Memory.wf ((unspecifyRxb s).mem sp) := by
  cases sp
  · exact h .txpay
  · exact h .txw
  · exact Memory.wf_writeRange (h .rxb) 0

/-- The free bytes: as many as asked for, one for each value of the counter. -/
theorem length_freeBytes (c n : Nat) : (freeBytes c n).length = n := by
  induction n generalizing c with
  | zero => rfl
  | succ n ih => simp [freeBytes, ih]

theorem getElem?_freeBytes (c n j : Nat) (h : j < n) : (freeBytes c n)[j]? = some (Config.freeByte (c + j)) := by
  induction n generalizing c j with
  | zero => omega
  | succ n ih =>
    cases j with
    | zero => simp [freeBytes]
    | succ j =>
      rw [freeBytes, List.getElem?_cons_succ, ih (c + 1) j (by omega)]
      congr 2
      omega

/-! ## The caller's buffer -/

/-- No byte of the caller's buffer lies below its start or beyond its length. -/
theorem mem_callerBuffer {buf : List (Option Byte)} {i : Nat} {c : Host.Cell} (h : c ∈ callerBuffer i buf) :
    i ≤ c.1 ∧ c.1 < i + buf.length := by
  induction buf generalizing i with
  | nil => cases h
  | cons o buf ih =>
    rw [List.length_cons]
    cases o with
    | none => have := ih h; omega
    | some b =>
      rcases List.mem_cons.1 h with rfl | h
      · simp
      · have := ih h; omega

/-- The caller's buffer is canonical. -/
theorem callerBuffer_wf (buf : List (Option Byte)) (i : Nat) : Memory.wf (callerBuffer i buf) := by
  induction buf generalizing i with
  | nil => exact List.Pairwise.nil
  | cons o buf ih =>
    cases o with
    | none => exact ih (i + 1)
    | some b => exact List.Pairwise.cons (fun _ h => (mem_callerBuffer h).1) (ih (i + 1))

/-- What the caller's buffer holds at the call (rule R238). -/
theorem read_callerBuffer (buf : List (Option Byte)) (i j : Nat) :
    Memory.read (callerBuffer i buf) (i + j) = buf[j]?.join := by
  induction buf generalizing i j with
  | nil => rfl
  | cons o buf ih =>
    cases j with
    | zero =>
      cases o with
      | none => exact Memory.read_of_lt (m := callerBuffer (i + 1) buf) fun _ h => (mem_callerBuffer h).1
      | some b => simp [callerBuffer, Memory.read]
    | succ j =>
      have hj := ih (i + 1) j
      rw [Nat.add_right_comm, Nat.add_assoc] at hj
      cases o with
      | none => simpa [callerBuffer] using hj
      | some b => simpa [callerBuffer, Memory.read] using hj

end Sys2Proof.Machine
end

