-- ==== Sys2Proof/Laws/Ops.lean ====
section
/-! SUPPORT. For each shared operation, once, everything it can do: what its next state is and when it has one. -/

namespace Sys2Proof.Machine

/-! ## Sequence -/

@[simp] theorem andThen_next (s : State) (k : State → Res) : andThen (.next s) k = k s := rfl
@[simp] theorem andThen_fault (f : Fault) (k : State → Res) : andThen (.fault f) k = .fault f := rfl
@[simp] theorem andThen_refused (q : Refusal) (k : State → Res) : andThen (.refused q) k = .refused q := rfl

/-- A sequence that answers a next state went through one. -/
theorem andThen_eq_next {r : Res} {k : State → Res} {t : State} :
    andThen r k = .next t ↔ ∃ s, r = .next s ∧ k s = .next t := by
  cases r <;> simp [andThen]

theorem andThen_assoc (r : Res) (k l : State → Res) :
    andThen (andThen r k) l = andThen r fun s => andThen (k s) l := by
  cases r <;> rfl

/-! ## Buffers -/

theorem storeByte_of_lt {sp : Space} {i : Nat} (v : Byte) (s : State) (h : i < sp.size) :
    storeByte sp i v s = .next (s.setMem sp (Memory.write (s.mem sp) i v)) := by
  simp [storeByte, h]

/-- A store that answers was in bounds and wrote one byte. -/
theorem storeByte_eq_next {sp : Space} {i : Nat} {v : Byte} {s t : State} :
    storeByte sp i v s = .next t ↔ i < sp.size ∧ t = s.setMem sp (Memory.write (s.mem sp) i v) := by
  unfold storeByte
  split <;> simp_all [eq_comm]

theorem fetchByte_of_read {sp : Space} {i : Nat} {s : State} {b : Byte} (k : Byte → Res)
    (h : i < sp.size) (hr : Memory.read (s.mem sp) i = some b) : fetchByte sp i s k = k b := by
  simp [fetchByte, h, hr]

/-- A fetch that goes on to a next state found a byte in bounds. -/
theorem fetchByte_eq_next {sp : Space} {i : Nat} {s t : State} {k : Byte → Res} :
    fetchByte sp i s k = .next t ↔ i < sp.size ∧ ∃ b, Memory.read (s.mem sp) i = some b ∧ k b = .next t := by
  unfold fetchByte
  split
  · split <;> simp_all
  · simp_all

/-! ## Emitting -/

theorem emit_of_lt {b : Byte} {s : State} (h : s.txwlen.toNat < 522) :
    emit b s = .next { s with txw := Memory.write s.txw s.txwlen.toNat b, txwlen := s.txwlen + 1 } := by
  rw [emit, storeByte_of_lt (sp := .txw) b s h]
  rfl

theorem emit_eq_next {b : Byte} {s t : State} :
    emit b s = .next t ↔ s.txwlen.toNat < 522 ∧
      t = { s with txw := Memory.write s.txw s.txwlen.toNat b, txwlen := s.txwlen + 1 } := by
  by_cases h : s.txwlen.toNat < 522
  · simp [emit_of_lt h, h, eq_comm]
  · simp [emit, storeByte, Space.size, Config.txwCap, h]

/-- Emitting a byte sequence that fits appends it to TXW[0..TXWLEN) and touches nothing else. -/
theorem emitAll_of_le {bs : List Byte} {s : State} (h : s.txwlen.toNat + bs.length ≤ 522) :
    emitAll bs s = .next { s with
      txw := Memory.writeRange s.txw s.txwlen.toNat bs, txwlen := s.txwlen + BitVec.ofNat 16 bs.length } := by
  induction bs generalizing s with
  | nil => simp [emitAll, Memory.writeRange]
  | cons b bs ih =>
    have hb : s.txwlen.toNat < 522 := by simp only [List.length_cons] at h; omega
    have hn : (s.txwlen + 1).toNat = s.txwlen.toNat + 1 := by
      rw [BitVec.toNat_add]
      exact Nat.mod_eq_of_lt (by simp; omega)
    have hl : s.txwlen + 1 + BitVec.ofNat 16 bs.length = s.txwlen + BitVec.ofNat 16 (bs.length + 1) := by
      apply BitVec.eq_of_toNat_eq
      have h1 : BitVec.toNat (1 : Word) = 1 := rfl
      simp only [BitVec.toNat_add, BitVec.toNat_ofNat, h1]
      omega
    rw [emitAll, emit_of_lt hb, andThen_next, ih (by simp only [List.length_cons] at h; simp only [hn]; omega)]
    simp only [hn, hl, Memory.writeRange, List.length_cons]

/-- Emitting touches TXW and TXWLEN alone. -/
theorem emitAll_frame {bs : List Byte} {s t : State} (h : emitAll bs s = .next t) :
    t = { s with txw := t.txw, txwlen := t.txwlen } := by
  induction bs generalizing s with
  | nil => cases h; rfl
  | cons b bs ih =>
    obtain ⟨u, hu, ht⟩ := andThen_eq_next.1 h
    obtain ⟨-, rfl⟩ := emit_eq_next.1 hu
    have hf := ih ht
    rw [hf]

/-- One body byte of ENCODE touches TXW, TXWLEN and CSACC alone, CSACC by that byte. -/
theorem encodeByte_frame {b : Byte} {s t : State} (h : encodeByte b s = .next t) :
    t = { s with txw := t.txw, txwlen := t.txwlen, csacc := s.csacc + b } := by
  obtain ⟨u, hu, ht⟩ := andThen_eq_next.1 h
  have hf := emitAll_frame hu
  cases ht
  rw [hf]
  rfl

/-! ## Errors and free values -/

theorem read_unspecifyRxb (s : State) (i : Nat) :
    Memory.read (unspecifyRxb s).rxb i =
      if i < s.rxlen.toNat then some (Config.freeByte (s.freeCtr + i)) else Memory.read s.rxb i := by
  rw [unspecifyRxb_rxb, Memory.read_writeRange, length_freeBytes, Nat.zero_add]
  by_cases h : i < s.rxlen.toNat
  · simp [h, getElem?_freeBytes]
  · simp [h]

/-! ## The channel -/

/-- The channel's answer is at most the bytes offered (rule R201). -/
theorem channelAnswer_le (m : Nat) (s : State) : channelAnswer m s ≤ m := by
  unfold channelAnswer
  split <;> exact Nat.min_le_right _ _

/-- The channel's answer does not depend on the block. -/
theorem channelAnswer_congr {m : Nat} {s t : State} (ha : s.answers = t.answers) (hd : s.draws = t.draws) :
    channelAnswer m s = channelAnswer m t := by
  simp [channelAnswer, ha, hd]

/-! ## The collector -/

/-- What the collector does with a byte: dropped unarmed, else stored and counted, and perhaps closed. -/
theorem collect_eq_next {b : Byte} {s t : State} :
    collect b s = .next t ↔
      (s.rxarmed = false ∧ t = s) ∨
      (s.rxarmed = true ∧ s.rxlen.toNat < 522 ∧
        t = closeIfDone (countByte b { s with rxb := Memory.write s.rxb s.rxlen.toNat b })) := by
  unfold collect
  by_cases h : s.rxarmed = true
  · by_cases hl : s.rxlen.toNat < 522
    · simp [h, storeByte_of_lt (sp := .rxb) b s hl, hl, eq_comm]
    · simp [h, storeByte, Space.size, Config.rxCap, hl]
  · simp [h, eq_comm]

/-- Closing touches the three collection flags alone. -/
theorem closeIfDone_frame (s : State) :
    closeIfDone s = { s with
      rxarmed := (closeIfDone s).rxarmed, rxdone := (closeIfDone s).rxdone, rxovf := (closeIfDone s).rxovf } := by
  unfold closeIfDone
  split
  · rfl
  · split <;> rfl

/-! ## The decoder -/

/-- A logical byte written in the scan. -/
theorem scanPut_of_lt {raw : Byte} {s : State} (h : s.wr.toNat < 522) :
    scanPut raw s = .next { s with
      rxb := Memory.write s.rxb s.wr.toNat raw, wr := s.wr + 1, rd := s.rd + 1 } := by
  rw [scanPut, storeByte_of_lt (sp := .rxb) raw s h]
  rfl

theorem scanPut_eq_next {raw : Byte} {s t : State} :
    scanPut raw s = .next t ↔ s.wr.toNat < 522 ∧
      t = { s with rxb := Memory.write s.rxb s.wr.toNat raw, wr := s.wr + 1, rd := s.rd + 1 } := by
  by_cases h : s.wr.toNat < 522
  · simp [scanPut_of_lt h, h, eq_comm]
  · simp [scanPut, storeByte, Space.size, Config.rxCap, h]

/-- Everything a scanning step can do: FrameError, UnknownEscapeCode, or one logical byte written. -/
theorem scanSymbol_cases {s t : State} (h : scanSymbol s = .next t) :
    t = raiseDecode .frameError s ∨
    t = raiseDecode .unknownEscapeCode { s with rd := s.rd + 1 } ∨
    ∃ raw : Byte, s.wr.toNat < 522 ∧
      ((t = { s with rxb := Memory.write s.rxb s.wr.toNat raw, wr := s.wr + 1, rd := s.rd + 1 }) ∨
        t = { s with rxb := Memory.write s.rxb s.wr.toNat raw, wr := s.wr + 1, rd := s.rd + 1 + 1 }) := by
  obtain ⟨-, b, -, h⟩ := fetchByte_eq_next.1 h
  split at h
  · cases h
    exact .inl rfl
  · split at h
    · obtain ⟨-, f, -, h⟩ := fetchByte_eq_next.1 h
      split at h
      · cases h
        exact .inr (.inl rfl)
      · obtain ⟨hw, rfl⟩ := scanPut_eq_next.1 h
        exact .inr (.inr ⟨_, hw, .inr rfl⟩)
    · obtain ⟨hw, rfl⟩ := scanPut_eq_next.1 h
      exact .inr (.inr ⟨_, hw, .inl rfl⟩)

/-- Step 1 fails with FrameError or runs on, and then both ends are delimiters (rule R173). -/
theorem decodeHeader_cases {s t : State} {k : State → Res} (h : decodeHeader s k = .next t) :
    t = raiseDecode .frameError s ∨
    (Config.minLen ≤ s.rxlen.toNat ∧ Memory.read s.rxb 0 = some Config.delim ∧
      Memory.read s.rxb (s.rxlen.toNat - 1) = some Config.delim ∧ k s = .next t) := by
  unfold decodeHeader at h
  split at h
  · cases h
    exact .inl rfl
  · obtain ⟨-, first, hf, h⟩ := fetchByte_eq_next.1 h
    split at h
    · cases h
      exact .inl rfl
    · obtain ⟨-, last, hl, h⟩ := fetchByte_eq_next.1 h
      split at h
      · cases h
        exact .inl rfl
      · simp_all [State.mem]

/-- The test of step 4 fails with ChecksumMismatch, or step 5 ends DECODE (rules R179, R180). -/
theorem compareChecksum_cases {s t : State} (h : compareChecksum s = .next t) :
    t = raiseDecode .checksumMismatch s ∨
    ∃ a c n : Byte, Memory.read s.rxb 0 = some a ∧ Memory.read s.rxb 1 = some c ∧ Memory.read s.rxb 2 = some n ∧
      Memory.read s.rxb s.rd.toNat = some (~~~ s.csacc) ∧ t = decodeEnd a c n s := by
  obtain ⟨-, x, hx, h⟩ := fetchByte_eq_next.1 h
  split at h
  · cases h
    exact .inl rfl
  · rename_i hc
    obtain ⟨-, a, ha, h⟩ := fetchByte_eq_next.1 h
    obtain ⟨-, c, hc', h⟩ := fetchByte_eq_next.1 h
    obtain ⟨-, n, hn, h⟩ := fetchByte_eq_next.1 h
    cases h
    exact .inr ⟨a, c, n, ha, hc', hn, by rw [not_not.1 hc]; exact hx, rfl⟩

/-- The sum of step 4 touches CSACC and RD alone. -/
theorem sumLoop_cases {k : Nat} {s t : State} (h : sumLoop k s = .next t) :
    ∃ u : State, u = { s with csacc := u.csacc, rd := u.rd } ∧ compareChecksum u = .next t := by
  induction k generalizing s with
  | zero => exact ⟨s, rfl, h⟩
  | succ k ih =>
    obtain ⟨-, b, -, h⟩ := fetchByte_eq_next.1 h
    obtain ⟨u, hu, hc⟩ := ih h
    exact ⟨u, by rw [hu]; rfl, hc⟩

/-- Step 3 fails with FrameError or step 4 follows; RXUSZ is written either way (rules R177, R178). -/
theorem decodeLength_cases {s t : State} (h : decodeLength s = .next t) :
    t = raiseDecode .frameError { s with rxusz := s.wr } ∨
    ∃ u : State, u = { s with rxusz := s.wr, csacc := u.csacc, rd := u.rd } ∧ compareChecksum u = .next t := by
  obtain ⟨-, l, -, h⟩ := fetchByte_eq_next.1 h
  split at h
  · obtain ⟨u, hu, hc⟩ := sumLoop_cases h
    exact .inr ⟨u, by rw [hu], hc⟩
  · cases h
    exact .inl rfl

/-- The whole scan: an error of step 2, or its end, with RXB, WR and RD alone changed before (rules R174 to R177). -/
theorem scanLoop_cases {fuel : Nat} {s t : State} (hs : s.decst = .scan) (h : scanLoop fuel s = .next t) :
    ∃ u : State, u = { s with rxb := u.rxb, wr := u.wr, rd := u.rd } ∧
      (t = raiseDecode .frameError u ∨ t = raiseDecode .unknownEscapeCode u ∨ decodeLength u = .next t) := by
  induction fuel generalizing s with
  | zero => exact ⟨s, rfl, .inr (.inr h)⟩
  | succ fuel ih =>
    unfold scanLoop at h
    split at h
    · obtain ⟨v, hv, h⟩ := andThen_eq_next.1 h
      rcases scanSymbol_cases hv with rfl | rfl | ⟨raw, -, rfl | rfl⟩
      · cases h
        exact ⟨s, rfl, .inl rfl⟩
      · cases h
        exact ⟨{ s with rd := s.rd + 1 }, rfl, .inr (.inl rfl)⟩
      · rw [if_pos hs] at h
        obtain ⟨u, hu, hr⟩ := ih (s := { s with
          rxb := _, wr := s.wr + 1, rd := s.rd + 1 }) hs h
        exact ⟨u, by rw [hu], hr⟩
      · rw [if_pos hs] at h
        obtain ⟨u, hu, hr⟩ := ih (s := { s with
          rxb := _, wr := s.wr + 1, rd := s.rd + 1 + 1 }) hs h
        exact ⟨u, by rw [hu], hr⟩
    · exact ⟨s, rfl, .inr (.inr h)⟩

/-- Everything DECODE can do: IllegalOp; or, from a state in which RXVALID and the working registers alone have changed, an
error, or success. -/
theorem execDecode_cases {s t : State} (h : execDecode s = .next t) :
    (decodeRefused s = true ∧ t = raise .illegalOp s) ∨
    (decodeRefused s = false ∧ ∃ u : State,
      u = { s with
        rxvalid := false, rxb := u.rxb, rxusz := u.rxusz, csacc := u.csacc, wr := u.wr, rd := u.rd, decst := u.decst } ∧
      ((∃ e : ErrorKind, (e = .frameError ∨ e = .unknownEscapeCode ∨ e = .checksumMismatch) ∧ t = raiseDecode e u) ∨
        ∃ a c n : Byte, t = decodeEnd a c n u)) := by
  unfold execDecode at h
  split at h
  · rename_i hr
    cases h
    exact .inl ⟨hr, rfl⟩
  · rename_i hr
    refine .inr ⟨by simpa using hr, ?_⟩
    rcases decodeHeader_cases h with rfl | ⟨-, -, -, h⟩
    · exact ⟨decodeStart s, rfl, .inl ⟨_, .inl rfl, rfl⟩⟩
    · obtain ⟨v, hv, h⟩ := scanLoop_cases rfl h
      rcases h with rfl | rfl | h
      · exact ⟨v, by rw [hv]; rfl, .inl ⟨_, .inl rfl, rfl⟩⟩
      · exact ⟨v, by rw [hv]; rfl, .inl ⟨_, .inr (.inl rfl), rfl⟩⟩
      · rcases decodeLength_cases h with rfl | ⟨w, hw, h⟩
        · exact ⟨{ v with rxusz := v.wr }, by rw [hv]; rfl, .inl ⟨_, .inl rfl, rfl⟩⟩
        · have hw' : w = { s with
              rxvalid := false, rxb := w.rxb, rxusz := w.rxusz, csacc := w.csacc, wr := w.wr, rd := w.rd
              decst := w.decst } := by rw [hw, hv]; rfl
          rcases compareChecksum_cases h with rfl | ⟨a, c, n, -, -, -, -, rfl⟩
          · exact ⟨w, hw', .inl ⟨_, .inr (.inr rfl), rfl⟩⟩
          · exact ⟨w, hw', .inr ⟨a, c, n, rfl⟩⟩

/-! ## ENCODE -/

/-- The payload loop touches TXW, TXWLEN, CSACC and PI alone. -/
theorem encodePayload_frame {n : Nat} {s t : State} (h : encodePayload n s = .next t) :
    t = { s with txw := t.txw, txwlen := t.txwlen, csacc := t.csacc, pi := t.pi } := by
  induction n generalizing s with
  | zero => cases h; rfl
  | succ n ih =>
    obtain ⟨-, p, -, h⟩ := fetchByte_eq_next.1 h
    obtain ⟨u, hu, h⟩ := andThen_eq_next.1 h
    have hf := ih h
    rw [hf, encodeByte_frame hu]

/-- Everything ENCODE can touch: TXW, TXWLEN, CSACC, PI, TXRDY, ERR and ENCST (rule R150). -/
theorem execEncode_frame {s t : State} (h : execEncode s = .next t) :
    t = { s with
      txw := t.txw, txwlen := t.txwlen, csacc := t.csacc, pi := t.pi, txrdy := true, err := .none, encst := .idle } := by
  obtain ⟨s1, h1, h⟩ := andThen_eq_next.1 h
  obtain ⟨s2, h2, h⟩ := andThen_eq_next.1 h
  obtain ⟨s3, h3, h⟩ := andThen_eq_next.1 h
  obtain ⟨s4, h4, h⟩ := andThen_eq_next.1 h
  obtain ⟨s5, h5, h⟩ := andThen_eq_next.1 h
  obtain ⟨s6, h6, h⟩ := andThen_eq_next.1 h
  obtain ⟨s7, h7, h⟩ := andThen_eq_next.1 h
  cases h
  obtain ⟨-, rfl⟩ := emit_eq_next.1 h7
  obtain ⟨-, rfl⟩ := emit_eq_next.1 h1
  rw [emitAll_frame h6, encodePayload_frame h5, encodeByte_frame h4, encodeByte_frame h3, encodeByte_frame h2]
  rfl

end Sys2Proof.Machine
end

