-- ==== Sys2Proof/Laws/Codec.lean ====
section
/-! SUPPORT. The escape function and the two sums: the small laws the codec's correctness rests on. -/

namespace Sys2Proof.Machine

/-! ## Sums -/

@[simp] theorem sumBytes_nil : sumBytes [] = 0 := rfl
@[simp] theorem sumBytes_cons (b : Byte) (bs : List Byte) : sumBytes (b :: bs) = b + sumBytes bs := rfl

theorem sumBytes_append (l m : List Byte) : sumBytes (l ++ m) = sumBytes l + sumBytes m := by
  induction l with
  | nil => simp
  | cons b l ih => simp [ih, BitVec.add_assoc]

/-! ## Escapes -/

@[simp] theorem escapeAll_nil : escapeAll [] = [] := rfl
@[simp] theorem escapeAll_cons (b : Byte) (bs : List Byte) : escapeAll (b :: bs) = esc b ++ escapeAll bs := rfl

theorem escapeAll_append (l m : List Byte) : escapeAll (l ++ m) = escapeAll l ++ escapeAll m := by
  induction l with
  | nil => rfl
  | cons b l ih => simp [ih]

/-- A logical byte goes on the wire as itself, or as the marker and the code that stands for it (rule R95). -/
theorem esc_cases (b : Byte) :
    (esc b = [b] ∧ b ≠ Config.esc ∧ b ≠ Config.delim ∧ special b = false) ∨
    ∃ f, esc b = [Config.esc, f] ∧ unesc f = some b ∧ special b = true := by
  unfold esc
  split
  · subst b; exact .inr ⟨0x31#8, rfl, by decide, by decide⟩
  · split
    · subst b; exact .inr ⟨0x33#8, rfl, by decide, by decide⟩
    · split
      · subst b; exact .inr ⟨0x5D#8, rfl, by decide, by decide⟩
      · split
        · subst b; exact .inr ⟨0x5E#8, rfl, by decide, by decide⟩
        · rename_i h1 h2 h3 h4
          exact .inl ⟨rfl, h3, h4, by simp [special, h1, h2, h3, h4]⟩

/-- esc is the encoding of the symbol the encoder picks (rules R95 to R100). -/
theorem esc_eq_wireBytes (b : Byte) : esc b = wireBytes (symbolOf b) := by
  unfold esc symbolOf
  split
  · rfl
  · split
    · rfl
    · split
      · rfl
      · split <;> rfl

/-- The wire length of a logical body: one byte each, and one more for each special byte (rule R158). -/
theorem length_escapeAll (l : List Byte) : (escapeAll l).length = l.length + l.countP special := by
  induction l with
  | nil => rfl
  | cons b l ih =>
    rcases esc_cases b with ⟨h, -, -, hs⟩ | ⟨f, h, -, hs⟩ <;>
      simp only [escapeAll_cons, List.length_append, h, ih, List.length_cons, List.length_nil, List.countP_cons, hs] <;>
      simp <;> omega

/-- The scan reads an escaped logical byte and goes on behind it, whatever follows (rules R104, R174, R175). -/
theorem unescape_esc (b x : Byte) (rest : List Byte) :
    unescape (esc b ++ x :: rest) = (unescape (x :: rest)).map (List.cons b) := by
  rcases esc_cases b with ⟨h, h1, h2, -⟩ | ⟨f, h, hf, -⟩
  · rw [h, List.cons_append, List.nil_append, unescape, if_neg h2, if_neg h1]
    cases unescape (x :: rest) <;> rfl
  · have hne : Config.esc ≠ Config.delim := by decide
    rw [h, List.cons_append, List.cons_append, List.nil_append, unescape, if_neg hne, if_pos rfl, hf]
    cases unescape (x :: rest) <;> rfl

theorem escapeAll_ne_nil (b : Byte) (l : List Byte) : ∃ x rest, escapeAll (b :: l) = x :: rest := by
  rcases esc_cases b with ⟨h, -⟩ | ⟨f, h, -⟩ <;> exact ⟨_, _, by rw [escapeAll_cons, h]; rfl⟩

end Sys2Proof.Machine
end

