-- ==== Sys2Proof/Laws/PerInstr.lean ====
section
/-! SUPPORT. The statements made of every instruction, one lemma a constructor. MatchesTable: the encoder agrees with the
mask and the match of the instruction's row in spec/opcode_table.json. -/

namespace Sys2Proof.Laws.MatchesTable

/-- An encoding as the number the table's bits make: the first wire byte of a WIRE16 row in bits [15:8] (rule R115). -/
def codeNumber : Code → Nat
  | .cmd w => w.toNat
  | .event _ => 0
  | .wire [b] => b.toNat
  | .wire [a, b] => a.toNat * 256 + b.toNat
  | .wire _ => 0

/-- The row's mask and match, copied from the table; none where the table has none (RESERVED, RXBYTE, LIT). -/
def row : Instr → Option (Nat × Nat)
  | .nop => some (0x00FF, 0x0000)
  | .encode => some (0x00FF, 0x0001)
  | .decode => some (0x00FF, 0x0002)
  | .txsend => some (0x00FF, 0x0003)
  | .rxarm => some (0x00FF, 0x0004)
  | .rxstop => some (0x00FF, 0x0005)
  | .prime => some (0x00FF, 0x0006)
  | .csclr => some (0x00FF, 0x0007)
  | .csadd _ => some (0x00FF, 0x0008)
  | .reset => some (0x00FF, 0x0009)
  | .reserved _ => none
  | .rxbyte _ => none
  | .delim => some (0xFF, 0x7E)
  | .esc11 => some (0xFFFF, 0x7D31)
  | .esc13 => some (0xFFFF, 0x7D33)
  | .esc7d => some (0xFFFF, 0x7D5D)
  | .esc7e => some (0xFFFF, 0x7D5E)
  | .lit _ => none

/-- The encoding of an instruction matches its row. -/
def Statement (i : Instr) : Prop := ∀ mask value, row i = some (mask, value) → codeNumber (encode i) &&& mask = value

theorem nop : Statement .nop := by rintro _ _ ⟨⟩; decide
theorem encode : Statement .encode := by rintro _ _ ⟨⟩; decide
theorem decode : Statement .decode := by rintro _ _ ⟨⟩; decide
theorem txsend : Statement .txsend := by rintro _ _ ⟨⟩; decide
theorem rxarm : Statement .rxarm := by rintro _ _ ⟨⟩; decide
theorem rxstop : Statement .rxstop := by rintro _ _ ⟨⟩; decide
theorem prime : Statement .prime := by rintro _ _ ⟨⟩; decide
theorem csclr : Statement .csclr := by rintro _ _ ⟨⟩; decide

theorem csadd (imm : Byte) : Statement (.csadd imm) := by
  have h : ∀ imm : Byte, codeNumber (Sys2Proof.encode (.csadd imm)) &&& 0x00FF = 0x0008 := by decide
  rintro _ _ ⟨⟩
  exact h imm

theorem reset : Statement .reset := by rintro _ _ ⟨⟩; decide
theorem reserved (op : Byte) : Statement (.reserved op) := by rintro _ _ ⟨⟩
theorem rxbyte (b : Byte) : Statement (.rxbyte b) := by rintro _ _ ⟨⟩
theorem delim : Statement .delim := by rintro _ _ ⟨⟩; decide
theorem esc11 : Statement .esc11 := by rintro _ _ ⟨⟩; decide
theorem esc13 : Statement .esc13 := by rintro _ _ ⟨⟩; decide
theorem esc7d : Statement .esc7d := by rintro _ _ ⟨⟩; decide
theorem esc7e : Statement .esc7e := by rintro _ _ ⟨⟩; decide
theorem lit (b : Byte) : Statement (.lit b) := by rintro _ _ ⟨⟩

end Sys2Proof.Laws.MatchesTable
end

