-- ==== Sys2Proof/Tests/Slice0.lean ====
section
/-! SUPPORT. The model's own tests. Expected values come from 95_test_vectors.md and the worked examples of the rules
(the vector's name stands at each test). A witness_ theorem shows values that meet a statement's hypotheses. -/

open Sys2Proof Sys2Proof.Machine

namespace Sys2Proof.Tests

/-! ## Helpers -/

/-- The next state, if there is one. -/
def nextOf (r : Res) : Option State :=
  match r with
  | .next s => some s
  | .fault _ => none
  | .refused _ => none

/-- The fault, if there is one. -/
def faultOf (r : Res) : Option Fault :=
  match r with
  | .next _ => none
  | .fault f => some f
  | .refused _ => none

/-- The refusal, if there is one. -/
def refusalOf (r : Res) : Option Refusal :=
  match r with
  | .next _ => none
  | .fault _ => none
  | .refused q => some q

/-- Bytes as a buffer from index i on. -/
def bufferFrom (i : Nat) : List Byte → Memory
  | [] => []
  | b :: bs => (i, b) :: bufferFrom (i + 1) bs

/-- The reset state with ENCODE's operands. -/
def operands (a c : Byte) (p : List Byte) : State :=
  { State.reset with txadr := a, txcmd := c, txlen := BitVec.ofNat 8 p.length, txpay := bufferFrom 0 p }

/-- The reset state with a received buffer. -/
def received (bs : List Byte) : State :=
  { State.reset with rxb := bufferFrom 0 bs, rxlen := BitVec.ofNat 16 bs.length }

/-- The reset state after RXARM, some bytes gathered. -/
def gathering (bs : List Byte) : State :=
  { received bs with rxarmed := true, dcnt := BitVec.ofNat 2 (bs.count 0x7E#8) }

/-- The state after V-E2, with an answer of the channel. -/
def frameBuilt (answers : List Nat) : State :=
  { operands 0x00#8 0x11#8 [] with
    txw := bufferFrom 0 [0x7E#8, 0x00#8, 0x7D#8, 0x31#8, 0x00#8, 0xEE#8, 0x7E#8]
    txwlen := 7, txrdy := true, csacc := 0x11#8, answers := answers }

/-- What ENCODE leaves in TXW, and CSACC. -/
def encoded (s : State) : Option (Option (List Byte) × Byte × Byte) :=
  (nextOf (exec .encode s)).map fun t =>
    (Memory.readRange t.txw 0 t.txwlen.toNat, t.csacc, statusReg t)

/-- What DECODE leaves in ERR, RXUSZ, CSACC and the flag RXVALID. -/
def decoded (s : State) : Option (ErrorKind × Word × Byte × Bool) :=
  (nextOf (exec .decode s)).map fun t => (t.err, t.rxusz, t.csacc, t.rxvalid)

/-- What the collector holds: STATUS, RXLEN, DCNT and RXB[0..RXLEN). -/
def gathered (r : Res) : Option (Byte × Word × BitVec 2 × Option (List Byte)) :=
  (nextOf r).map fun t => (statusReg t, t.rxlen, t.dcnt, Memory.readRange t.rxb 0 t.rxlen.toNat)

/-! ## WellFormed: a term that stands for no encoding is refused -/

theorem test_wellFormed_reserved_too_low : (Instr.reserved 0x09#8).wellFormed = false := by decide
theorem test_wellFormed_reserved_low_end : (Instr.reserved 0x0A#8).wellFormed = true := by decide
theorem test_wellFormed_lit_marker : (Instr.lit 0x7D#8).wellFormed = false := by decide
theorem test_wellFormed_lit_delimiter : (Instr.lit 0x7E#8).wellFormed = false := by decide
theorem test_wellFormed_lit_raw_11 : (Instr.lit 0x11#8).wellFormed = true := by decide

/-! ## Decoding: words written out bit by bit from spec/opcode_table.json -/

theorem test_decode_nop : decode (.cmd 0b0000000000000000#16) = .ok .nop := by decide
theorem test_decode_encode : decode (.cmd 0b1010101100000001#16) = .ok .encode := by decide
theorem test_decode_decode : decode (.cmd 0b0000000000000010#16) = .ok .decode := by decide
theorem test_decode_txsend : decode (.cmd 0b0000000000000011#16) = .ok .txsend := by decide
theorem test_decode_rxarm : decode (.cmd 0b0000000000000100#16) = .ok .rxarm := by decide
theorem test_decode_rxstop : decode (.cmd 0b0000000000000101#16) = .ok .rxstop := by decide
theorem test_decode_prime : decode (.cmd 0b0000000000000110#16) = .ok .prime := by decide
theorem test_decode_csclr : decode (.cmd 0b0000000000000111#16) = .ok .csclr := by decide
theorem test_decode_csadd : decode (.cmd 0b0001000100001000#16) = .ok (.csadd 0x11#8) := by decide
theorem test_decode_reset : decode (.cmd 0b0000000000001001#16) = .ok .reset := by decide
theorem test_decode_reserved : decode (.cmd 0b0101010100001010#16) = .ok (.reserved 0x0A#8) := by decide
theorem test_decode_reserved_high_end : decode (.cmd 0b0000000011111111#16) = .ok (.reserved 0xFF#8) := by decide
theorem test_decode_rxbyte : decode (.event 0x55#8) = .ok (.rxbyte 0x55#8) := by decide
theorem test_decode_delim : decode (.wire [0b01111110#8]) = .ok .delim := by decide
theorem test_decode_esc11 : decode (.wire [0b01111101#8, 0b00110001#8]) = .ok .esc11 := by decide
theorem test_decode_esc13 : decode (.wire [0b01111101#8, 0b00110011#8]) = .ok .esc13 := by decide
theorem test_decode_esc7d : decode (.wire [0b01111101#8, 0b01011101#8]) = .ok .esc7d := by decide
theorem test_decode_esc7e : decode (.wire [0b01111101#8, 0b01011110#8]) = .ok .esc7e := by decide
theorem test_decode_lit : decode (.wire [0b00110001#8]) = .ok (.lit 0x31#8) := by decide

/-- R105: a marker is judged with its follower, whatever the follower is. -/
theorem test_decode_marker_then_delimiter : decode (.wire [0x7D#8, 0x7E#8]) = .error (.badFollower 0x7E#8) := by decide
theorem test_decode_marker_alone : decode (.wire [0x7D#8]) = .error .markerAlone := by decide

/-- R115: a WIRE16 row has the marker in bits [15:8]. -/
theorem test_table_word_esc7e : decodeTableWord 16 0x7D5E = some .esc7e := by decide
theorem test_table_word_csadd : decodeTableWord 16 0x1108 = some (.csadd 0x11#8) := by decide
theorem test_table_word_lit : decodeTableWord 8 0x31 = some (.lit 0x31#8) := by decide

/-! ## System commands -/

/-- V-Q1. -/
theorem test_nop_keeps_err : (nextOf (exec .nop { State.reset with err := .checksumMismatch })).map State.err =
    some .checksumMismatch := by decide

/-- V-Q6. -/
theorem test_reset_empties_txw : (nextOf (exec .reset (frameBuilt []))).map
    (fun t => (statusReg t, t.txwlen, t.txw)) = some (0x00#8, 0, []) := by decide
theorem test_reset_leaves_sent_bytes : (nextOf (exec .reset { State.reset with txs := [0xFF#8], err := .transportError })).map
    (fun t => (t.txs, t.err)) = some ([0xFF#8], .none) := by decide

/-- V-Q4, through the port. -/
theorem test_reserved_0A : (nextOf (hostAccess (.regWrite 0 (.half 0x550A#16)) (gathering [0x7E#8]))).map
    (fun t => (t.err, t.rxarmed, t.rxlen)) = some (.illegalOp, true, 1) := by decide

/-! ## The Checksum Engine -/

/-- V-C5: truncation, no end-around carry. -/
theorem test_csadd_drops_the_carry : (nextOf (hostProgram (checksumProgram [0xFF#8, 0x02#8]) State.reset)).map
    (fun t => (t.csacc, t.portLog)) = some (0x01#8, [.byte 0xFE#8]) := by decide

/-- V-S3. -/
theorem test_csadd_D0_example : (nextOf (hostProgram (checksumProgram [0x00#8, 0x11#8, 0x00#8]) State.reset)).map
    (fun t => (t.csacc, t.portLog)) = some (0x11#8, [.byte 0xEE#8]) := by decide

/-- V-Q2. -/
theorem test_csclr_clears_err : (nextOf (exec .csclr { State.reset with err := .checksumMismatch, csacc := 5 })).map
    (fun t => (t.err, t.csacc)) = some (.none, 0) := by decide

/-! ## ENCODE -/

/-- V-E2. -/
theorem test_encode_E2 : encoded (operands 0x00#8 0x11#8 []) =
    some (some [0x7E#8, 0x00#8, 0x7D#8, 0x31#8, 0x00#8, 0xEE#8, 0x7E#8], 0x11#8, 0x01#8) := by decide

/-- V-E11, all four escape rows. -/
theorem test_encode_E11 : encoded (operands 0x7E#8 0x7D#8 [0x11#8, 0x13#8, 0x7D#8, 0x7E#8]) =
    some (some [0x7E#8, 0x7D#8, 0x5E#8, 0x7D#8, 0x5D#8, 0x04#8, 0x7D#8, 0x31#8, 0x7D#8, 0x33#8, 0x7D#8, 0x5D#8, 0x7D#8,
      0x5E#8, 0xE1#8, 0x7E#8], 0x1E#8, 0x01#8) := by decide

/-! ## DECODE -/

/-- V-D20, with the buffer DECODE leaves. -/
theorem test_decode_D20 : (nextOf (exec .decode (received [0x7E#8, 0x7D#8, 0x5E#8, 0x7D#8, 0x5D#8, 0x04#8, 0x7D#8, 0x31#8,
      0x7D#8, 0x33#8, 0x7D#8, 0x5D#8, 0x7D#8, 0x5E#8, 0xE1#8, 0x7E#8]))).map
      (fun t => ([t.rxadr, t.rxcmd, t.rxplen, t.csacc], Memory.readRange t.rxb 0 16)) =
    some ([0x7E#8, 0x7D#8, 0x04#8, 0x1E#8], some [0x7E#8, 0x7D#8, 0x04#8, 0x11#8, 0x13#8, 0x7D#8, 0x7E#8, 0xE1#8, 0x7D#8,
      0x33#8, 0x7D#8, 0x5D#8, 0x7D#8, 0x5E#8, 0xE1#8, 0x7E#8]) := by decide

/-- V-D21: the length test must not wrap. -/
theorem test_decode_D21 : decoded (received [0x7E#8, 0x7D#8, 0x31#8, 0xEF#8, 0xFF#8, 0x7E#8]) =
    some (.frameError, 3, 0x00#8, false) := by decide

/-! ## The channel -/

/-- V-T2. -/
theorem test_txsend_short_write : (nextOf (exec .txsend (frameBuilt [3]))).map (fun t => (t.txs, t.err, t.txrdy)) =
    some ([0x7E#8, 0x00#8, 0x7D#8], .transportError, true) := by decide

/-- V-T5. -/
theorem test_txsend_nothing_built : (nextOf (exec .txsend State.reset)).map (fun t => (t.txs, t.err)) =
    some ([], .illegalOp) := by decide

/-- V-T6. -/
theorem test_prime_sent : (nextOf (exec .prime { State.reset with answers := [1] })).map (fun t => (t.txs, t.err)) =
    some ([0xFF#8], .none) := by decide

/-- V-T7. -/
theorem test_prime_not_sent : (nextOf (exec .prime { State.reset with answers := [0] })).map (fun t => (t.txs, t.err)) =
    some ([], .transportError) := by decide

/-- V-R10: RXARM while armed starts again. -/
theorem test_rxarm_restarts : gathered (exec .rxarm (gathering [0x7E#8, 0x00#8, 0x00#8, 0x00#8])) =
    some (0x02#8, 0, 0, some []) := by decide

/-- V-R4. -/
theorem test_rxstop_closes : gathered (exec .rxstop (gathering [0x7E#8, 0x00#8, 0x00#8])) =
    some (0x04#8, 3, 1, some [0x7E#8, 0x00#8, 0x00#8]) := by decide

/-- V-R11. -/
theorem test_rxstop_unarmed : gathered (exec .rxstop { State.reset with rxdone := true, err := .illegalOp }) =
    some (0x04#8, 0, 0, some []) := by decide

/-- V-R1: the second delimiter closes, the byte after it is dropped. -/
theorem test_rxbyte_closes : gathered (collectAll [0x7E#8, 0x55#8] (gathering [0x7E#8, 0x00#8, 0x00#8, 0x00#8, 0xFF#8])) =
    some (0x04#8, 6, 2, some [0x7E#8, 0x00#8, 0x00#8, 0x00#8, 0xFF#8, 0x7E#8]) := by decide

/-- V-R7, the byte that fills the buffer (the buffer's other contents left out). -/
theorem test_rxbyte_overflow : (nextOf (exec (.rxbyte 0x00#8) { State.reset with rxarmed := true, rxlen := 521, dcnt := 1 })).map
    (fun t => (statusReg t, t.rxlen)) = some (0x0C#8, 522) := by decide

/-! ## The wire symbols: in the scan (R174, R176), in the encoder (R152), at the collector (R204) -/

/-- The decoder of V-D20, about to read the body byte at index 1. -/
def scanning : State := { received [0x7E#8, 0x7D#8, 0x5E#8, 0x00#8, 0x7E#8] with decst := .scan, rd := 1 }

/-- What a symbol of the scan leaves: RXB[0], RD, WR, ERR. -/
def scanned (i : Instr) : Option (Option Byte × Word × Word × ErrorKind) :=
  (nextOf (exec i scanning)).map fun t => (Memory.read t.rxb 0, t.rd, t.wr, t.err)

theorem test_scan_esc11 : scanned .esc11 = some (some 0x11#8, 3, 1, .none) := by decide
theorem test_scan_esc13 : scanned .esc13 = some (some 0x13#8, 3, 1, .none) := by decide
theorem test_scan_esc7d : scanned .esc7d = some (some 0x7D#8, 3, 1, .none) := by decide
theorem test_scan_esc7e : scanned .esc7e = some (some 0x7E#8, 3, 1, .none) := by decide
theorem test_scan_lit : scanned (.lit 0x31#8) = some (some 0x31#8, 2, 1, .none) := by decide
theorem test_scan_delim : (nextOf (exec .delim scanning)).map (fun t => (t.err, t.decst)) =
    some (.frameError, .idle) := by decide

/-- R152: what a symbol appends to TXW. -/
def emitted (i : Instr) : Option (Memory × Word) :=
  (nextOf (exec i { State.reset with encst := .adr })).map fun t => (t.txw, t.txwlen)

theorem test_emit_esc13 : emitted .esc13 = some ([(0, 0x7D#8), (1, 0x33#8)], 2) := by decide
theorem test_emit_delim : emitted .delim = some ([(0, 0x7E#8)], 1) := by decide

/-- The collector interprets no marker. -/
theorem test_collect_esc7e : gathered (exec .esc7e (gathering [0x7E#8])) =
    some (0x02#8, 3, 1, some [0x7E#8, 0x7D#8, 0x5E#8]) := by decide

/-! ## The host port -/

/-- V-Q8. -/
theorem test_write_status_dropped : nextOf (hostAccess (.regWrite 1 (.byte 0xFF#8)) State.reset) = some State.reset := by
  decide

/-- V-Q10. -/
theorem test_write_rxlen_clears_valid : (nextOf (hostAccess (.regWrite 7 (.half 6)) { State.reset with rxvalid := true, rxlen := 6 })).map
    (fun t => (t.rxlen, t.rxvalid)) = some (6, false) := by decide

/-- V-Q12. -/
theorem test_read_csout : (nextOf (hostAccess (.regRead 13) State.reset)).map State.portLog = some [.byte 0xFF#8] := by decide

/-- R46: a byte nothing has written. -/
theorem test_unwritten_byte_faults : faultOf (hostAccess (.bufRead .rxb 0) State.reset) = some .unwrittenByte := by decide

/-- R66. -/
theorem test_index_522_refused : refusalOf (hostAccess (.bufWrite .rxb 522 0x00#8) State.reset) = some .noSuchIndex := by decide

/-! ## The session -/

/-- R238: a place of the caller's buffer that the copy does not reach keeps its byte. -/
theorem test_copy_leaves_the_rest : (nextOf (sessionTurn { received [0x00#8, 0x11#8, 0x01#8, 0xAA#8] with
      session := { todo := [.copy 0 1], capacity := 2, resp := callerBuffer 0 [none, some 0xCC#8], result := none } })).map
    (fun t => t.session.resp) = some [(0, 0xAA#8), (1, 0xCC#8)] := by decide

/-! ## Witnesses: values that meet the hypotheses of the statements -/

/-- An armed collection that has stored a delimiter, with a built frame: the invariant's premises at once. -/
def busy : State := { gathering [0x7E#8] with
  txw := bufferFrom 0 [0x7E#8, 0x00#8, 0x7D#8, 0x31#8, 0x00#8, 0xEE#8, 0x7E#8], txwlen := 7, txrdy := true
  inputs := [.rxByte 0x7E#8] }

theorem inv_busy : Inv busy where
  codecIdle := by decide
  buffers := by
    intro sp
    cases sp <;> decide
  errOfBlock := by decide
  armed := fun _ => ⟨by decide, by decide, by decide, by decide, [0x7E#8], by decide, by decide⟩
  overflow := by decide
  txFrame := fun _ => ⟨0x00#8, 0x11#8, [], by decide, by decide⟩
  noFrame := by decide
  rxFrame := fun h => absurd h (by decide)

/-- The state after V-D3's DECODE, a frame in RXB. -/
def decodedFrame : State := { received [0x00#8, 0x00#8, 0x00#8, 0xFF#8, 0xFF#8, 0x7E#8] with
  rxvalid := true, rxusz := 4, inputs := [.host (.bufWrite .rxb 3 0x00#8)] }

theorem inv_decodedFrame : Inv decodedFrame where
  codecIdle := by decide
  buffers := by
    intro sp
    cases sp <;> decide
  errOfBlock := by decide
  armed := fun h => absurd h (by decide)
  overflow := by decide
  txFrame := fun h => absurd h (by decide)
  noFrame := by decide
  rxFrame := fun _ => ⟨[], by decide, by decide, by decide⟩

theorem steps_of_nextOf {r : Res} (h : (nextOf r).isSome = true) : ∃ t, r = .next t := by
  cases r with
  | next t => exact ⟨t, rfl⟩
  | fault f => cases h
  | refused q => cases h

theorem witness_ResetGivesEveryElementItsValue :
    regIsWide 1 = false ∧ regIsWide 12 = false ∧ regIsWide 0 = true ∧ regIsWide 8 = true ∧
    ({ busy with inputs := [.hardReset] } : State).inputs = .hardReset :: [] := by decide

theorem witness_ResetCommandKeepsTxs : opcodeOf 0x5509#16 = 0x09#8 := by decide

theorem witness_EveryStepKeepsBlockInvariant :
    (Inv busy ∧ ∃ t, step busy = .next t) ∧ Inv decodedFrame ∧ ∃ t, step decodedFrame = .next t :=
  ⟨⟨inv_busy, steps_of_nextOf (by decide)⟩, inv_decodedFrame, steps_of_nextOf (by decide)⟩

theorem witness_StepRunsTheDecodedInstruction :
    (decode (.wire [0x7D#8, 0x5E#8]) = .ok .esc7e ∧
      ({ busy with inputs := [inputOf (.wire [0x7D#8, 0x5E#8])] } : State).inputs = inputOf (.wire [0x7D#8, 0x5E#8]) :: []) ∧
    (decode (.cmd 0x1108#16) = .ok (.csadd 0x11#8) ∧
      ({ busy with inputs := [inputOf (.cmd 0x1108#16)] } : State).inputs = inputOf (.cmd 0x1108#16) :: []) ∧
    State.reset.inputs = [] := by decide

theorem witness_DecodeInvertsEncode :
    WellFormed (.reserved 0x0A#8) ∧ WellFormed (.reserved 0xFF#8) ∧ WellFormed (.lit 0x7C#8) ∧
    ∀ i ∈ [Instr.delim, .esc11, .lit 0x31#8, .delim], WellFormed i ∧ i.isWire = true := by decide

theorem witness_OnlyCsaddReadsTheImmediate :
    opcodeOf 0xAB01#16 = opcodeOf 0x0001#16 ∧ opcodeOf 0xAB01#16 ≠ 0x08#8 ∧ (0xAB01#16 : Word) ≠ 0x0001#16 := by decide

theorem witness_NopChangesNothing : opcodeOf 0xAB00#16 = 0x00#8 := by decide

theorem witness_ReservedOpcodesOnlySetIllegalOp :
    0x0A ≤ (opcodeOf 0x550A#16).toNat ∧ 0x0A ≤ (opcodeOf 0x00FF#16).toNat ∧ CodecIdle busy := by decide

theorem witness_CsclrClearsTheAccumulator : opcodeOf 0xAB07#16 = 0x07#8 := by decide
theorem witness_CsaddAddsModulo256 : opcodeOf 0xFF08#16 = 0x08#8 := by decide

theorem witness_ChecksumLaws :
    List.Perm [0x01#8, 0x02#8] [0x02#8, 0x01#8] ∧ 0xFC#8 = checksum [0x01#8, 0x02#8] ∧ 0 < 8 ∧ 7 < 8 ∧
    (([0xFF#8, 0x01#8] : List Byte).map BitVec.toNat).sum % 256 = 0 := by decide

theorem witness_EncodeBuildsTheWireFrame :
    opcodeOf 0xAB01#16 = 0x01#8 ∧
    Memory.readRange (operands 0x00#8 0x11#8 []).txpay 0 (operands 0x00#8 0x11#8 []).txlen.toNat = some [] ∧
    Memory.readRange (operands 0x13#8 0x03#8 [0x7E#8]).txpay 0 (operands 0x13#8 0x03#8 [0x7E#8]).txlen.toNat = some [0x7E#8] := by
  decide

/-- A payload of 255 bytes. -/
theorem longest_payload_is_readable :
    Memory.readRange (operands 0x7E#8 0x7E#8 (List.replicate 255 0x7E#8)).txpay 0
      (operands 0x7E#8 0x7E#8 (List.replicate 255 0x7E#8)).txlen.toNat = some (List.replicate 255 0x7E#8) := by decide +kernel

theorem witness_EncodeOfUnwrittenPayloadFaults :
    Memory.readRange ({ State.reset with txlen := 1 } : State).txpay 0 ({ State.reset with txlen := 1 } : State).txlen.toNat = none := by
  decide

theorem witness_EncodedFrameIsProperlyEscaped :
    Memory.readRange (operands 0x7E#8 0x7D#8 [0x11#8, 0x13#8]).txpay 0 (operands 0x7E#8 0x7D#8 [0x11#8, 0x13#8]).txlen.toNat =
      some [0x11#8, 0x13#8] := by decide

theorem witness_EncodedLengthFormulaAndBounds :
    special (operands 0x00#8 0x00#8 (List.replicate 17 0x00#8)).txlen = true ∧
    Memory.readRange (operands 0x00#8 0x00#8 (List.replicate 17 0x00#8)).txpay 0
      (operands 0x00#8 0x00#8 (List.replicate 17 0x00#8)).txlen.toNat = some (List.replicate 17 0x00#8) := by decide

theorem witness_EncodeIsIdempotent :
    Memory.wf (frameBuilt []).txw ∧ Memory.readRange (frameBuilt []).txpay 0 (frameBuilt []).txlen.toNat = some [] := by decide

theorem witness_EncoderStateMachineAgrees : (operands 0x13#8 0x03#8 [0x7E#8]).encst = .idle := by decide

theorem witness_DecodeRefusedPreconditions :
    (CodecIdle busy ∧ busy.rxarmed = true) ∧
    (CodecIdle ({ State.reset with rxlen := 523 } : State) ∧ 522 < ({ State.reset with rxlen := 523 } : State).rxlen.toNat) ∧
    ({ State.reset with rxlen := 522 } : State).rxarmed = false ∧ ({ State.reset with rxlen := 522 } : State).rxlen.toNat ≤ 522 ∧
    (received [0x7E#8, 0x00#8]).rxarmed = false ∧ ∃ t, exec .decode (received [0x7E#8, 0x00#8]) = .next t :=
  ⟨by decide, by decide, by decide, by decide, by decide, steps_of_nextOf (by decide)⟩

/-- V-D3, the shortest frame. -/
def shortFrame : List Byte := [0x7E#8, 0x00#8, 0x00#8, 0x00#8, 0xFF#8, 0x7E#8]

theorem witness_DecodeOfAcceptedBuffer :
    opcodeOf 0xAB02#16 = 0x02#8 ∧ (received shortFrame).rxarmed = false ∧ (received shortFrame).rxlen.toNat ≤ 522 ∧
    Memory.readRange (received shortFrame).rxb 0 (received shortFrame).rxlen.toNat = some shortFrame ∧
    unstuff shortFrame = .ok (0x00#8, 0x00#8, 0x00#8, []) := by decide

/-- V-D2, V-D34, V-D13c, V-D14: a failure of each step. -/
def tooShort : List Byte := [0x7E#8, 0x00#8, 0x00#8, 0xFF#8, 0x7E#8]
def trailingMarker : List Byte := [0x7E#8, 0x00#8, 0x00#8, 0x00#8, 0x7D#8, 0x7E#8]
def wrongLength : List Byte := [0x7E#8, 0x00#8, 0x00#8, 0x00#8, 0x00#8, 0xFF#8, 0x7E#8]
def wrongSum : List Byte := [0x7E#8, 0x00#8, 0x03#8, 0x03#8, 0x00#8, 0x02#8, 0x80#8, 0x76#8, 0x7E#8]

/-- The common hypotheses of a DECODE of a received buffer. -/
theorem received_is_readable :
    ∀ raw ∈ [tooShort, trailingMarker, wrongLength, wrongSum],
      (received raw).rxarmed = false ∧ (received raw).rxlen.toNat ≤ 522 ∧
      Memory.readRange (received raw).rxb 0 (received raw).rxlen.toNat = some raw := by decide

/-- A received buffer some of whose bytes hold no value. -/
def partly (bs : List (Option Byte)) : State :=
  { State.reset with rxb := callerBuffer 0 bs, rxlen := BitVec.ofNat 16 bs.length }

/-- First clause: a failure before the scan, in it, in step 3, in step 4. -/
theorem witness_FailedDecodeEffects :
    (unstuff tooShort = .error .frameError ∧ headerOk tooShort = false) ∧
    (unstuff trailingMarker = .error .unknownEscapeCode ∧ headerOk trailingMarker = true ∧
      unescape trailingMarker.tail = .error .unknownEscapeCode) ∧
    (unstuff wrongLength = .error .frameError ∧ headerOk wrongLength = true ∧
      unescape wrongLength.tail = .ok [0x00#8, 0x00#8, 0x00#8, 0x00#8, 0xFF#8]) ∧
    (unstuff wrongSum = .error .checksumMismatch ∧ headerOk wrongSum = true ∧
      unescape wrongSum.tail = .ok [0x00#8, 0x03#8, 0x03#8, 0x00#8, 0x02#8, 0x80#8, 0x76#8]) :=
  ⟨by decide, by decide, by decide, by decide⟩

/-- Second clause: each of the three tests of step 1, with no byte, the first or the first and the last byte written, at
RXLEN 5, 6 and 522. -/
theorem witness_FailedDecodeEffects_header :
    (State.reset.rxarmed = false ∧ HeaderFails { State.reset with rxlen := 5 }) ∧
    HeaderFails (partly [some 0x55#8, none, none, none, none, none]) ∧
    HeaderFails (partly [some 0x7E#8, none, none, none, none, some 0x55#8]) ∧
    HeaderFails { State.reset with rxlen := 522, rxb := [(0, 0x7E#8), (521, 0x7D#8)] } :=
  ⟨⟨rfl, .inl (by decide)⟩, .inr (.inl ⟨0x55#8, by decide, by decide⟩),
    .inr (.inr ⟨by decide, 0x55#8, by decide, by decide⟩), .inr (.inr ⟨by decide, 0x7D#8, by decide, by decide⟩)⟩

/-- Third clause: a stray delimiter, or a marker with no code after it, before a byte without a value. -/
theorem witness_FailedDecodeEffects_scan :
    (HeaderPasses (partly [some 0x7E#8, some 0x7E#8, none, none, none, some 0x7E#8]) ∧
      BodyBegins (partly [some 0x7E#8, some 0x7E#8, none, none, none, some 0x7E#8]) [0x7E#8] ∧
      (scanPrefix [0x7E#8] = .error .frameError)) ∧
    (HeaderPasses (partly [some 0x7E#8, some 0x7D#8, some 0x00#8, none, none, some 0x7E#8]) ∧
      BodyBegins (partly [some 0x7E#8, some 0x7D#8, some 0x00#8, none, none, some 0x7E#8]) [0x7D#8, 0x00#8] ∧
      (scanPrefix [0x7D#8, 0x00#8] = .error .unknownEscapeCode)) :=
  ⟨⟨by decide, by decide, by decide⟩, by decide, by decide, by decide⟩

/-- Fourth clause: no first byte, and a first but no last byte, at RXLEN 6 and 522. -/
theorem witness_FailedDecodeEffects_unwritten_ends :
    (6 ≤ ({ State.reset with rxlen := 6 } : State).rxlen.toNat ∧ Memory.read State.reset.rxb 0 = none) ∧
    Memory.read (bufferFrom 0 [0x7E#8]) 0 = some 0x7E#8 ∧
    Memory.read (bufferFrom 0 [0x7E#8]) (({ State.reset with rxlen := 6 } : State).rxlen.toNat - 1) = none ∧
    Memory.read (bufferFrom 0 [0x7E#8]) (({ State.reset with rxlen := 522 } : State).rxlen.toNat - 1) = none := by decide

/-- Fifth clause: the first body byte without a value, the follower of a marker, the last body byte. -/
theorem witness_FailedDecodeEffects_unwritten_body :
    (HeaderPasses (partly [some 0x7E#8, none, none, none, none, some 0x7E#8]) ∧
      BodyBegins (partly [some 0x7E#8, none, none, none, none, some 0x7E#8]) [] ∧ (scanPrefix [] = .ok []) ∧
      Memory.read (partly [some 0x7E#8, none, none, none, none, some 0x7E#8]).rxb (1 + 0) = none) ∧
    (HeaderPasses (partly [some 0x7E#8, some 0x7D#8, none, none, none, some 0x7E#8]) ∧
      BodyBegins (partly [some 0x7E#8, some 0x7D#8, none, none, none, some 0x7E#8]) [0x7D#8] ∧
      (scanPrefix [0x7D#8] = .ok [0x11#8]) ∧
      Memory.read (partly [some 0x7E#8, some 0x7D#8, none, none, none, some 0x7E#8]).rxb (1 + 1) = none) ∧
    (HeaderPasses (partly [some 0x7E#8, some 0x00#8, some 0x00#8, some 0x00#8, none, some 0x7E#8]) ∧
      BodyBegins (partly [some 0x7E#8, some 0x00#8, some 0x00#8, some 0x00#8, none, some 0x7E#8]) [0x00#8, 0x00#8, 0x00#8] ∧
      (scanPrefix [0x00#8, 0x00#8, 0x00#8] = .ok [0x00#8, 0x00#8, 0x00#8]) ∧
      Memory.read (partly [some 0x7E#8, some 0x00#8, some 0x00#8, some 0x00#8, none, some 0x7E#8]).rxb (1 + 3) = none) :=
  ⟨⟨by decide, by decide, by decide, by decide⟩, ⟨by decide, by decide, by decide, by decide⟩,
    by decide, by decide, by decide, by decide⟩

/-- V-D19a (two logical bytes) beside the buffers above. -/
theorem witness_DecodeTestsInFixedOrder :
    headerOk tooShort = false ∧
    (headerOk trailingMarker = true ∧ unescape trailingMarker.tail = .error .unknownEscapeCode) ∧
    (headerOk wrongLength = true ∧ unescape wrongLength.tail = .ok [0x00#8, 0x00#8, 0x00#8, 0x00#8, 0xFF#8] ∧
      ([0x00#8, 0x00#8, 0x00#8, 0x00#8, 0xFF#8] : List Byte)[2]? = some 0x00#8 ∧ (0x00#8 : Byte).toNat + 4 ≠ 5) ∧
    (headerOk [0x7E#8, 0x7D#8, 0x31#8, 0x7D#8, 0x31#8, 0x7E#8] = true ∧
      unescape [0x7D#8, 0x31#8, 0x7D#8, 0x31#8, 0x7E#8] = .ok [0x11#8, 0x11#8]) ∧
    (headerOk shortFrame = true ∧ unescape shortFrame.tail = .ok (0x00#8 :: 0x00#8 :: 0x00#8 :: ([] ++ [0xFF#8])) ∧
      (0x00#8 : Byte).toNat = ([] : List Byte).length) ∧
    unstuff wrongSum = .error .checksumMismatch :=
  ⟨by decide, by decide, by decide, by decide, by decide, by decide⟩

theorem witness_DecoderStateMachineAgrees :
    (received wrongSum).decst = .idle ∧ 2 * (received wrongSum).rxlen.toNat + 4 ≤ 22 := by decide

theorem witness_UnstuffInvertsStuff : (List.replicate 255 0x7E#8 : List Byte).length ≤ 255 := List.length_replicate.le

theorem witness_RoundTripThroughTheBlock :
    (operands 0x13#8 0x03#8 [0x7E#8]).rxarmed = false ∧
    Memory.readRange (operands 0x13#8 0x03#8 [0x7E#8]).txpay 0 (operands 0x13#8 0x03#8 [0x7E#8]).txlen.toNat = some [0x7E#8] := by
  decide

/-- V-E18 (base of V-D14, V-D15): the first and the last body byte, and both clauses of the second part. -/
theorem witness_SingleBitFlipNeverDecodes :
    ((stuff 0x00#8 0x03#8 [0x01#8, 0x02#8, 0x80#8])[1]? = some 0x00#8 ∧
      (stuff 0x00#8 0x03#8 [0x01#8, 0x02#8, 0x80#8])[7]? = some 0x76#8 ∧
      7 + 1 < (stuff 0x00#8 0x03#8 [0x01#8, 0x02#8, 0x80#8]).length) ∧
    (logicalBody 0x00#8 0x03#8 [0x01#8, 0x02#8, 0x80#8] = [0x00#8, 0x03#8] ++ 0x03#8 :: [0x01#8, 0x02#8, 0x80#8, 0x76#8] ∧
      special 0x03#8 = false ∧ flipBit 0x03#8 2 ≠ 0x7D#8 ∧ flipBit 0x03#8 2 ≠ 0x7E#8) ∧
    (logicalBody 0x00#8 0x03#8 [0x01#8, 0x02#8, 0x80#8] = [0x00#8, 0x03#8, 0x03#8] ++ 0x01#8 :: [0x02#8, 0x80#8, 0x76#8] ∧
      special 0x01#8 = false ∧ flipBit 0x01#8 0 ≠ 0x7D#8 ∧ flipBit 0x01#8 0 ≠ 0x7E#8) := by decide

theorem witness_UnknownEscapeNeverDecodes :
    (received trailingMarker).rxarmed = false ∧ (received trailingMarker).rxlen.toNat ≤ 522 ∧
    Memory.readRange (received trailingMarker).rxb 0 (received trailingMarker).rxlen.toNat = some trailingMarker ∧
    4 + 2 ≤ trailingMarker.length ∧ trailingMarker[4]? = some 0x7D#8 ∧ trailingMarker[4 + 1]? = some 0x7E#8 ∧
    0x7E#8 ∉ [0x31#8, 0x33#8, 0x5D#8, 0x5E#8] := by decide

theorem witness_ScanCursorsNeverCross :
    scanning.decst = .scan ∧ scanning.wr.toNat < scanning.rd.toNat ∧ scanning.rd.toNat + 2 ≤ scanning.rxlen.toNat ∧
    scanning.rxlen.toNat ≤ 522 ∧ Memory.readRange scanning.rxb 0 scanning.rxlen.toNat ≠ none ∧
    Memory.read scanning.rxb (scanning.rxlen.toNat - 1) = some 0x7E#8 := by decide

theorem witness_WireSymbolsInTheScan :
    rawOf .esc7e = some 0x7E#8 ∧ rawOf (.lit 0x31#8) = some 0x31#8 ∧ scanning.decst = .scan ∧ scanning.wr.toNat < 522 := by decide

theorem witness_StrayDelimiterInTheScan : scanning.decst = .scan := by decide

/-- The scan at a pair, at a literal, and at a marker whose follower is no code (V-D28). -/
theorem witness_ScanRunsTheDecodedSymbol :
    (scanning.decst = .scan ∧ scanning.rd.toNat + 2 ≤ scanning.rxlen.toNat ∧ scanning.rxlen.toNat ≤ 522 ∧
      Memory.read scanning.rxb scanning.rd.toNat = some 0x7D#8 ∧ Memory.read scanning.rxb (scanning.rd.toNat + 1) = some 0x5E#8 ∧
      decodeWire [0x7D#8, 0x5E#8] = .ok (.esc7e, [])) ∧
    decodeWire [0x31#8, 0x7E#8] = .ok (.lit 0x31#8, [0x7E#8]) ∧ decodeWire [0x7D#8, 0x30#8] = .error (.badFollower 0x30#8) := by
  decide

/-- An encoder that has written 520 bytes: a pair just fits. -/
theorem witness_WireSymbolsInTheEncoder :
    Instr.isWire .esc11 = true ∧ ({ State.reset with encst := .data, txwlen := 520 } : State).encst ≠ .idle ∧
    ({ State.reset with encst := .data, txwlen := 520 } : State).decst ≠ .scan ∧
    ({ State.reset with encst := .data, txwlen := 520 } : State).txwlen.toNat + (wireBytes .esc11).length ≤ 522 := by decide

theorem witness_WireSymbolsOnTheChannel :
    (Instr.isWire .esc11 = true ∧ CodecIdle busy ∧ (busy.rxarmed = true → busy.rxlen.toNat < 522)) ∧
    (CodecIdle State.reset ∧ State.reset.rxarmed = false) := by decide

theorem witness_TxsendSendsWhatTheChannelTakes :
    opcodeOf 0xAB03#16 = 0x03#8 ∧ (CodecIdle State.reset ∧ State.reset.txrdy = false) ∧
    (CodecIdle (frameBuilt [7]) ∧ (frameBuilt [7]).txrdy = true ∧
      Memory.readRange (frameBuilt [7]).txw 0 (frameBuilt [7]).txwlen.toNat =
        some [0x7E#8, 0x00#8, 0x7D#8, 0x31#8, 0x00#8, 0xEE#8, 0x7E#8]) ∧ 7 ≤ 7 := by decide

theorem witness_PrimeSendsOneRawByte : opcodeOf 0xAB06#16 = 0x06#8 ∧ CodecIdle State.reset := by decide
theorem witness_RxarmStartsACollection : opcodeOf 0xAB04#16 = 0x04#8 := by decide
theorem witness_RxstopEndsACollection : opcodeOf 0xAB05#16 = 0x05#8 ∧ busy.rxarmed = true ∧ State.reset.rxarmed = false := by decide

theorem witness_RxbyteStoresCountsAndCloses :
    (Inv busy ∧ busy.rxarmed = true) ∧ State.reset.rxarmed = false ∧
    (({ State.reset with rxarmed := true, rxlen := 521 } : State).rxarmed = true ∧
      ({ State.reset with rxarmed := true, rxlen := 521 } : State).rxlen.toNat < 522) :=
  ⟨⟨inv_busy, by decide⟩, by decide, by decide, by decide⟩

theorem witness_StoppedCollectionNeverDecodes : Inv busy ∧ busy.rxarmed = true := ⟨inv_busy, by decide⟩

theorem witness_CleanReplyIsCollectedAndDecoded :
    (List.replicate 255 0x7E#8 : List Byte).length ≤ 255 ∧ (gathering []).rxarmed = true ∧ (gathering []).rxlen = 0 ∧
    (gathering []).dcnt = 0 := ⟨List.length_replicate.le, by decide⟩

theorem witness_EveryCommandOverwritesErr :
    (Instr.isCommand .decode = true ∧ Instr.decode ≠ .nop) ∧ (∃ t, exec (.rxbyte 0x7E#8) busy = .next t) ∧
    (∃ t, exec .nop busy = .next t) ∧ Access.isCommandWrite (.regWrite 3 (.byte 0x13#8)) = false ∧
    ∃ t, hostAccess (.regWrite 3 (.byte 0x13#8)) busy = .next t :=
  ⟨by decide, steps_of_nextOf (by decide), steps_of_nextOf (by decide), by decide, steps_of_nextOf (by decide)⟩

theorem witness_OnlyTheEngineWritesCsacc :
    (∃ t, exec .txsend (frameBuilt [3]) = .next t) ∧ Instr.txsend ≠ .csclr ∧ (∀ imm : Byte, Instr.txsend ≠ .csadd imm) ∧
    Instr.txsend ≠ .encode ∧ Instr.txsend ≠ .decode ∧ Instr.txsend ≠ .reset ∧
    ∃ t, hostAccess (.regRead 13) busy = .next t :=
  ⟨steps_of_nextOf (by decide), by decide, fun _ h => Instr.noConfusion h, by decide, by decide, by decide,
    steps_of_nextOf (by decide)⟩

theorem witness_TxsOnlyGrows :
    (∃ t, exec .txsend (frameBuilt [3]) = .next t) ∧ ∃ t, exec .rxarm (frameBuilt []) = .next t :=
  ⟨steps_of_nextOf (by decide), steps_of_nextOf (by decide)⟩

theorem witness_OperationsKeepTheTransmitOperands :
    (∃ t, exec .encode (operands 0x13#8 0x03#8 [0x7E#8]) = .next t) ∧
    CodecIdle (frameBuilt [3]) ∧ ∃ t, exec .txsend (frameBuilt [3]) = .next t :=
  ⟨steps_of_nextOf (by decide), by decide, steps_of_nextOf (by decide)⟩

theorem witness_ResultRegistersOnlyOnSuccess :
    (∃ t, exec .decode (received shortFrame) = .next t) ∧ ∃ t, exec .decode (received tooShort) = .next t :=
  ⟨steps_of_nextOf (by decide), steps_of_nextOf (by decide)⟩

theorem witness_CommandsLeaveAnArmedCollectionAlone :
    Instr.isCommand .encode = true ∧ busy.rxarmed = true ∧ (∃ t, exec .encode busy = .next t) ∧
    ∃ t, exec .decode busy = .next t :=
  ⟨by decide, by decide, steps_of_nextOf (by decide), steps_of_nextOf (by decide)⟩

theorem witness_RegReadReturnsAndChangesNothing : 13 ≤ 13 ∧ 13 < 14 := by decide

theorem witness_RegWriteEffects :
    State.reset.rxarmed = false ∧ busy.rxarmed = true ∧ (13 ∈ [1, 2, 6, 8, 9, 10, 11, 12, 13] ∧ widthFits 13 (.byte 0xFF#8) = true) ∧
    (6 ∈ [1, 2, 6, 8, 9, 10, 11, 12, 13] ∧ widthFits 6 (.half 0xFFFF#16) = true) ∧
    widthFits 0 (.byte 0x01#8) = false ∧ widthFits 13 (.half 0x0001#16) = false := by decide

theorem witness_BufferAccessEffects :
    (521 < Space.rxb.size ∧ Memory.read (bufferFrom 521 [0x7E#8]) 521 = some 0x7E#8) ∧
    (254 < Space.txpay.size ∧ Memory.read (State.reset.mem .txpay) 254 = none) ∧
    State.reset.rxarmed = false ∧ busy.rxarmed = true ∧ Space.txpay.size ≤ 255 ∧ Space.txw.size ≤ 522 ∧ Space.rxb.size ≤ 522 := by
  decide

/-- The reset state with a call before it. -/
def calling (inputs : List Input) (answers : List Nat) : State := { State.reset with inputs := inputs, answers := answers }

/-- Eight turns, a received byte before the last. -/
def sendTurns : List Input := List.replicate 7 .turn ++ [.rxByte 0x7E#8, .turn]

/-- With an answer in the queue, and with none (a free answer). -/
theorem witness_SessionSendRuns :
    ∀ answers ∈ [[3], []],
      let s : State := { busy with inputs := .call (.send 0x00#8 0x11#8 [0x13#8]) :: (sendTurns ++ []), answers := answers }
      Inv s ∧ ([0x13#8] : List Byte).length ≤ 255 ∧ s.session.todo = [] ∧
      (∀ e ∈ sendTurns, e = .turn ∨ ∃ b : Byte, e = .rxByte b) ∧ sendTurns.count .turn = ([0x13#8] : List Byte).length + 7 ∧
      s.inputs = .call (.send 0x00#8 0x11#8 [0x13#8]) :: (sendTurns ++ []) := by
  intro answers _
  refine ⟨⟨inv_busy.codecIdle, inv_busy.buffers, inv_busy.errOfBlock, inv_busy.armed, inv_busy.overflow, inv_busy.txFrame,
    inv_busy.noFrame, inv_busy.rxFrame⟩, by decide, rfl, ?_, by decide, rfl⟩
  intro e he
  simp [sendTurns] at he
  rcases he with rfl | rfl | rfl
  · exact .inl rfl
  · exact .inr ⟨_, rfl⟩
  · exact .inl rfl

theorem witness_SessionActivateRuns :
    ∃ s : State, s.session.todo = [] ∧ s.answers = 0 :: [] ∧
      s.inputs = .call .activateTransport :: (List.replicate 3 .turn ++ []) :=
  ⟨calling (.call .activateTransport :: (List.replicate 3 .turn ++ [])) [0], rfl, rfl, rfl⟩

/-- V-R4's three bytes. -/
def partialReply : List Byte := [0x7E#8, 0x00#8, 0x00#8]

theorem turnsAndBytes_append {l m : List Input} (hl : TurnsAndBytes l) (hm : TurnsAndBytes m) : TurnsAndBytes (l ++ m) :=
  fun e he => (List.mem_append.1 he).elim (hl e) (hm e)

theorem turnsAndBytes_turns (n : Nat) : TurnsAndBytes (List.replicate n .turn) :=
  fun _ he => .inl (List.eq_of_mem_replicate he)

theorem turnsAndBytes_bytes (bs : List Byte) : TurnsAndBytes (bs.map .rxByte) :=
  fun _ he => .inr ((List.mem_map.1 he).imp fun _ hb => hb.2.symm)

/-- V-R4's three bytes, a poll before, among and after them. -/
def polledReply : List Input := [.turn, .rxByte 0x7E#8, .rxByte 0x00#8, .turn, .rxByte 0x00#8, .turn]

/-- Two turns after the closing byte, bytes before, between and after them. -/
def lastTurns : List Input := [.rxByte 0x55#8, .turn, .rxByte 0x7E#8, .turn, .rxByte 0x11#8]

theorem turnsAndBytes_polledReply : TurnsAndBytes polledReply := by
  intro e he
  simp only [polledReply, List.mem_cons, List.not_mem_nil, or_false] at he
  rcases he with rfl | rfl | rfl | rfl | rfl | rfl
  all_goals first | exact .inl rfl | exact .inr ⟨_, rfl⟩

theorem turnsAndBytes_lastTurns : TurnsAndBytes lastTurns := by
  intro e he
  simp only [lastTurns, List.mem_cons, List.not_mem_nil, or_false] at he
  rcases he with rfl | rfl | rfl | rfl | rfl
  all_goals first | exact .inl rfl | exact .inr ⟨_, rfl⟩

theorem count_zeros (n : Nat) : (List.replicate n 0x00#8 : List Byte).count 0x7E#8 = 0 :=
  List.count_eq_zero.2 fun h => absurd (List.eq_of_mem_replicate h) (by decide)

/-- 521 bytes leave room for one more, and that one fills RXB. -/
theorem closesOn_full : ClosesOn (List.replicate 521 0x00#8) 0x00#8 :=
  ⟨⟨by rw [show Config.delim = 0x7E#8 from rfl, count_zeros]; decide,
    by rw [List.length_replicate]; decide⟩, .inr (by rw [List.length_replicate]; decide)⟩

/-- The deadline with no byte and with V-R4's; the closing by the second delimiter; a list of 521 bytes is closed by one more. -/
theorem witness_SessionReceiveTimesOut :
    (TurnsAndBytes [] ∧ StaysOpen (receivedBytes [])) ∧
    (∃ s : State, TurnsAndBytes polledReply ∧ StaysOpen (receivedBytes polledReply) ∧ s.session.todo = [] ∧
      s.inputs = .call .receiveFrame :: .turn :: (polledReply ++ (.deadline :: .turn :: .turn :: []))) ∧
    (∃ s : State, TurnsAndBytes polledReply ∧ TurnsAndBytes lastTurns ∧ ClosesOn (receivedBytes polledReply) 0x7E#8 ∧
      lastTurns.count .turn = 2 ∧ s.session.todo = [] ∧
      s.inputs = .call .receiveFrame :: .turn :: (polledReply ++ (.rxByte 0x7E#8 :: (lastTurns ++ [])))) ∧
    TurnsAndBytes ((List.replicate 521 0x00#8).map .rxByte) ∧
    receivedBytes ((List.replicate 521 0x00#8).map .rxByte) = List.replicate 521 0x00#8 ∧
    ClosesOn (List.replicate 521 0x00#8) 0x00#8 :=
  ⟨⟨fun _ h => absurd h (by simp), by decide⟩,
    ⟨calling (.call .receiveFrame :: .turn :: (polledReply ++ (.deadline :: .turn :: .turn :: []))) [],
      turnsAndBytes_polledReply, by decide, rfl, rfl⟩,
    ⟨calling (.call .receiveFrame :: .turn :: (polledReply ++ (.rxByte 0x7E#8 :: (lastTurns ++ [])))) [],
      turnsAndBytes_polledReply, turnsAndBytes_lastTurns, by decide, by decide, rfl, rfl⟩,
    turnsAndBytes_bytes _,
    by rw [receivedBytes, List.filterMap_map]; exact List.filterMap_some,
    closesOn_full⟩

/-- P3: the request 00, 11, [] and the reply of V-E17. -/
def replyPayload : List Byte := [0x01#8, 0x02#8, 0x03#8, 0x04#8, 0x05#8, 0x06#8]

/-- The request's six moves after the arming, then a reply's bytes but the last, a poll before the first of them and one after
the last. -/
def requestAndReply (bs : List Byte) : List Input := List.replicate 7 .turn ++ (bs.map .rxByte ++ [.turn])

theorem turnsAndBytes_requestAndReply (bs : List Byte) : TurnsAndBytes (requestAndReply bs) :=
  turnsAndBytes_append (turnsAndBytes_turns 7) (turnsAndBytes_append (turnsAndBytes_bytes bs) (turnsAndBytes_turns 1))

/-- P3's call, the request 00, 11, [] and what comes in. -/
def exchanging (buf : List (Option Byte)) (inputs : List Input) : State :=
  calling (.call (.sendAndReceive 0x00#8 0x11#8 [] buf) :: .turn :: inputs) [7]

/-- The channel takes P3's whole request. -/
theorem request_goes_out (buf : List (Option Byte)) (inputs : List Input) :
    channelAnswer (stuff 0x00#8 0x11#8 []).length (exchanging buf inputs) = (stuff 0x00#8 0x11#8 []).length := by
  show min 7 (stuff 0x00#8 0x11#8 []).length = _
  decide

/-- P3's reply but its last byte. -/
def replyStart : List Byte := (stuff 0x00#8 0x11#8 replyPayload).dropLast

/-- First clause. P3's two runs, capacity 8 (its last byte written before) and capacity 4, the capacity that just fits, and an empty
reply; the status byte is free, so each is UnsupportedCommand for some status_of. -/
theorem witness_SessionExchangeRuns :
    (∀ buf ∈ [List.replicate 7 none ++ [some 0xAA#8], List.replicate 4 none, List.replicate 6 (some 0xBB#8)],
      ∃ s : State, s.session.todo = [] ∧
        channelAnswer (stuff 0x00#8 0x11#8 []).length s = (stuff 0x00#8 0x11#8 []).length ∧
        s.inputs = .call (.sendAndReceive 0x00#8 0x11#8 [] buf) :: .turn ::
          (requestAndReply replyStart ++ (.rxByte 0x7E#8 :: (List.replicate (replyPayload.length + 7) .turn ++ [])))) ∧
    (TurnsAndBytes (requestAndReply replyStart) ∧ TurnsAndBytes (List.replicate (replyPayload.length + 7) .turn) ∧
      ([] : List Byte).length + 6 ≤ (requestAndReply replyStart).count .turn ∧
      (List.replicate (replyPayload.length + 7) .turn : List Input).count .turn = replyPayload.length + 7 ∧
      receivedBytes (requestAndReply replyStart) ++ [0x7E#8] = stuff 0x00#8 0x11#8 replyPayload) ∧
    (([] : List Byte).length ≤ 255 ∧ replyPayload.length ≤ 255) ∧
    ([none, none, none, none] : List (Option Byte)).length < replyPayload.length ∧
    replyPayload.length ≤ (List.replicate 6 (some 0xBB#8)).length :=
  ⟨fun buf _ => ⟨exchanging buf _, rfl, request_goes_out _ _, rfl⟩,
    ⟨turnsAndBytes_requestAndReply _, turnsAndBytes_turns _, by decide, by decide, by decide⟩, by decide, by decide, by decide⟩

/-- Ten turns, a received byte before the first and around the last. -/
def shortWriteTurns : List Input := .rxByte 0x7E#8 :: (List.replicate 9 .turn ++ [.rxByte 0x7E#8, .turn, .rxByte 0x01#8])

/-- Second clause: the channel takes 3 bytes, as in P4 part a, an armed collection before the call. -/
theorem witness_SessionExchangeRuns_short_write :
    let s : State := { busy with
      inputs := .call (.sendAndReceive 0x00#8 0x11#8 [0x13#8] [none, some 0xAA#8]) :: (shortWriteTurns ++ []), answers := [3] }
    Inv s ∧ ([0x13#8] : List Byte).length ≤ 255 ∧ s.session.todo = [] ∧
    channelAnswer (stuff 0x00#8 0x11#8 [0x13#8]).length s < (stuff 0x00#8 0x11#8 [0x13#8]).length ∧
    TurnsAndBytes shortWriteTurns ∧ shortWriteTurns.count .turn = ([0x13#8] : List Byte).length + 9 ∧
    s.inputs = .call (.sendAndReceive 0x00#8 0x11#8 [0x13#8] [none, some 0xAA#8]) :: (shortWriteTurns ++ []) := by
  refine ⟨⟨inv_busy.codecIdle, inv_busy.buffers, inv_busy.errOfBlock, inv_busy.armed, inv_busy.overflow, inv_busy.txFrame,
    inv_busy.noFrame, inv_busy.rxFrame⟩, by decide, rfl, ?_, ?_, by decide, rfl⟩
  · show min 3 (stuff 0x00#8 0x11#8 [0x13#8]).length < _
    decide
  · intro e he
    simp only [shortWriteTurns, List.mem_cons, List.mem_append, List.mem_replicate, List.not_mem_nil, or_false] at he
    rcases he with rfl | ⟨-, rfl⟩ | rfl | rfl | rfl
    all_goals first | exact .inl rfl | exact .inr ⟨_, rfl⟩

/-- P4 part b: a noise byte before the reply. -/
def noisyReply : List Byte := [0x55#8, 0x7E#8, 0x00#8, 0x00#8, 0x00#8, 0xFF#8, 0x7E#8]

/-- Third clause: P4's, V-D34's, V-D13c's and V-D14's frames as replies, each closed by its second delimiter; and that 522
bytes close a collection too. -/
theorem witness_SessionExchangeRuns_bad_reply :
    (∀ raw ∈ [noisyReply, trailingMarker, wrongLength, wrongSum], ClosesOn raw.dropLast 0x7E#8 ∧
      raw.dropLast ++ [0x7E#8] = raw ∧ receivedBytes (requestAndReply raw.dropLast) = raw.dropLast ∧
      ([] : List Byte).length + 6 ≤ (requestAndReply raw.dropLast).count .turn) ∧
    (unstuff noisyReply = .error .frameError) ∧ (unstuff trailingMarker = .error .unknownEscapeCode) ∧
    (unstuff wrongLength = .error .frameError) ∧ (unstuff wrongSum = .error .checksumMismatch) ∧
    ClosesOn (List.replicate 521 0x00#8) 0x00#8 ∧
    ∀ raw : List Byte, TurnsAndBytes (requestAndReply raw) ∧ TurnsAndBytes (List.replicate 4 .turn) ∧
      ∃ s : State, s.session.todo = [] ∧
        channelAnswer (stuff 0x00#8 0x11#8 []).length s = (stuff 0x00#8 0x11#8 []).length ∧
        s.inputs = .call (.sendAndReceive 0x00#8 0x11#8 [] [none, some 0xAA#8]) :: .turn ::
          (requestAndReply raw ++ (.rxByte 0x7E#8 :: (List.replicate 4 .turn ++ []))) :=
  ⟨by decide, by decide, by decide, by decide, by decide, closesOn_full, fun raw =>
    ⟨turnsAndBytes_requestAndReply raw, turnsAndBytes_turns 4, exchanging [none, some 0xAA#8] _, rfl, request_goes_out _ _, rfl⟩⟩

/-- Fourth clause: silence after the request, and V-R4's three bytes, until the deadline. -/
theorem witness_SessionExchangeRuns_deadline :
    (∀ bs ∈ [[], partialReply], StaysOpen (receivedBytes (requestAndReply bs)) ∧
      ([] : List Byte).length + 6 ≤ (requestAndReply bs).count .turn) ∧
    ∀ bs : List Byte, TurnsAndBytes (requestAndReply bs) ∧ TurnsAndBytes (List.replicate 3 .turn) ∧
      ∃ s : State, s.session.todo = [] ∧
        channelAnswer (stuff 0x00#8 0x11#8 []).length s = (stuff 0x00#8 0x11#8 []).length ∧
        s.inputs = .call (.sendAndReceive 0x00#8 0x11#8 [] [none, some 0xAA#8]) :: .turn ::
          (requestAndReply bs ++ (.deadline :: .turn :: (List.replicate 3 .turn ++ []))) :=
  ⟨by decide, fun bs =>
    ⟨turnsAndBytes_requestAndReply bs, turnsAndBytes_turns 3, exchanging [none, some 0xAA#8] _, rfl, request_goes_out _ _, rfl⟩⟩

/-- A copy in progress: byte 1 of 2, into a buffer of two bytes. -/
def copying : State := { received [0x00#8, 0x11#8, 0x02#8, 0xAA#8, 0xBB#8] with
  inputs := [.turn], session := { todo := [.copy 1 2], capacity := 2, resp := [(0, 0xAA#8)], result := none } }

theorem witness_CallerBufferIsNeverOverrun : CallerBufferSafe copying ∧ ∃ t, step copying = .next t := by
  refine ⟨⟨by decide, ?_⟩, steps_of_nextOf (by decide)⟩
  intro i n h
  rcases List.mem_singleton.1 h with ⟨⟩
  decide

theorem witness_SessionCallsRefused :
    ({ copying with inputs := [.call .receiveFrame] } : State).session.todo ≠ [] ∧
    ({ State.reset with inputs := [.call (.send 0x00#8 0x11#8 (List.replicate 256 0x00#8))] } : State).session.todo = [] ∧
    255 < (callPayload (.send 0x00#8 0x11#8 (List.replicate 256 0x00#8))).length :=
  ⟨by decide, rfl, Nat.lt_of_lt_of_eq (by decide : 255 < 256) List.length_replicate.symm⟩

end Sys2Proof.Tests
end

section
/-! ## Steps and events

What a step does with its queue, and what serving the event that carries an instruction is (rules R2, R70, R74). -/

namespace Sys2Proof.Machine

theorem step_of_inputs_nil {s : State} (h : s.inputs = []) : step s = .next s := by
  rw [step, h]

theorem step_of_inputs_cons {s : State} {e : Input} {rest : List Input} (h : s.inputs = e :: rest) :
    step s = serve e { s with inputs := rest } := by
  rw [step, h]

theorem serveWire_of_decode_ok {bs : List Byte} {i : Instr} (h : decode (.wire bs) = .ok i) (s : State) :
    serveWire bs s = exec i s := by
  rw [serveWire, h]

/-- A command word and a received byte decode by computation; wire bytes are decoded again where they are served. -/
theorem serve_inputOf_of_decode_ok {c : Code} {i : Instr} (h : decode c = .ok i) (s : State) :
    serve (inputOf c) s = exec i s := by
  cases c with
  | cmd w => cases h; rfl
  | wire bs => exact serveWire_of_decode_ok h s
  | event b => cases h; rfl

/-- Settles O5: the step serves the head of the queue, and serving what carries an instruction executes it. -/
theorem stepRunsTheDecodedInstruction : Obligations.StepRunsTheDecodedInstruction := by
  refine ⟨fun s c i rest hdecode hinputs => ?_, fun s => step_of_inputs_nil⟩
  rw [step_of_inputs_cons hinputs, serve_inputOf_of_decode_ok hdecode]

end Sys2Proof.Machine
end

section
/-! ## Byte ranges

What one more byte, and one more range, do to a range that is written or read. -/

namespace Sys2Proof.Machine

/-- Canonical, with every index below `n` (rules R30, R46). -/
def Memory.Within (n : Nat) (m : Memory) : Prop := Memory.wf m ∧ ∀ c ∈ m, c.1 < n

theorem Memory.Within.write {n : Nat} {m : Memory} (h : Memory.Within n m) {i : Nat} (hi : i < n) (v : Byte) :
    Memory.Within n (Memory.write m i v) := by
  refine ⟨Memory.wf_write h.1 i v, fun c hc => ?_⟩
  rcases Memory.mem_write hc with rfl | hc
  · exact hi
  · exact h.2 c hc

theorem Memory.Within.writeRange {n : Nat} {m : Memory} (h : Memory.Within n m) {i : Nat} {bs : List Byte}
    (hi : i + bs.length ≤ n) : Memory.Within n (Memory.writeRange m i bs) := by
  refine ⟨Memory.wf_writeRange h.1 i, fun c hc => ?_⟩
  rcases Memory.mem_writeRange hc with hc | hc
  · omega
  · exact h.2 c hc

theorem Memory.writeRange_append (m : Memory) (i : Nat) (l r : List Byte) :
    Memory.writeRange m i (l ++ r) = Memory.writeRange (Memory.writeRange m i l) (i + l.length) r := by
  induction l generalizing m i with
  | nil => rfl
  | cons b l ih =>
    rw [List.cons_append, Memory.writeRange, ih, Memory.writeRange, List.length_cons, Nat.add_right_comm, Nat.add_assoc]

theorem Memory.readRange_succ (m : Memory) (i k : Nat) :
    Memory.readRange m i (k + 1) =
      (Memory.read m i).bind fun b => (Memory.readRange m (i + 1) k).map (List.cons b) := by
  rw [Memory.readRange]
  cases Memory.read m i with
  | none => rfl
  | some b => cases Memory.readRange m (i + 1) k <;> rfl

/-- A written range reads back. -/
theorem Memory.readRange_writeRange (m : Memory) (i : Nat) (bs : List Byte) :
    Memory.readRange (Memory.writeRange m i bs) i bs.length = some bs := by
  refine Memory.readRange_eq_some.2 ⟨rfl, fun j hj => ?_⟩
  rw [Memory.read_writeRange, if_pos (by omega), Nat.add_sub_cancel_left]

/-- One more byte behind a range that is written. -/
theorem Memory.readRange_concat {m : Memory} {i k : Nat} {l : List Byte} {v : Byte}
    (h : Memory.readRange m i k = some l) (hv : Memory.read m (i + k) = some v) :
    Memory.readRange m i (k + 1) = some (l ++ [v]) := by
  obtain ⟨hlen, hread⟩ := Memory.readRange_eq_some.1 h
  refine Memory.readRange_eq_some.2 ⟨by simp [hlen], fun j hj => ?_⟩
  rcases Nat.lt_succ_iff_lt_or_eq.1 hj with hlt | rfl
  · rw [hread j hlt, List.getElem?_append_left (by omega)]
  · rw [hv, ← hlen, List.getElem?_concat_length]

/-- A write behind a range does not change it. -/
theorem Memory.readRange_write_of_le {m : Memory} {i j k : Nat} (v : Byte) (h : i + k ≤ j) :
    Memory.readRange (Memory.write m j v) i k = Memory.readRange m i k := by
  induction k generalizing i with
  | zero => rfl
  | succ k ih => rw [Memory.readRange_succ, Memory.readRange_succ, Memory.read_write_other _ _ (by omega), ih (by omega)]

end Sys2Proof.Machine
end

section
/-! ## ENCODE, whole

What ENCODE answers on every state: the wire frame where its payload is written, else the host-program fault (rules R150,
R153, R154, U4). TXW is never too short for it (rule R157). -/

namespace Sys2Proof.Machine

/-- Each logical byte takes at most two wire bytes (rule R158). -/
theorem length_escapeAll_le (l : List Byte) : (escapeAll l).length ≤ 2 * l.length := by
  have hcount : l.countP special ≤ l.length := List.countP_le_length
  rw [length_escapeAll]
  omega

/-- The logical bytes `l` behind what TXW[0..TXWLEN) holds, and in CSACC. -/
def appendBody (l : List Byte) (s : State) : State :=
  { s with
    txw := Memory.writeRange s.txw s.txwlen.toNat (escapeAll l)
    txwlen := s.txwlen + BitVec.ofNat 16 (escapeAll l).length
    csacc := s.csacc + sumBytes l }

/-- TXWLEN counts on, where the bytes fit. -/
theorem txwlen_appendBody {l : List Byte} {s : State} (h : s.txwlen.toNat + 2 * l.length ≤ Config.txwCap) :
    (appendBody l s).txwlen.toNat = s.txwlen.toNat + (escapeAll l).length := by
  have hl := length_escapeAll_le l
  rw [Config.txwCap] at h
  simp only [appendBody, BitVec.toNat_add, BitVec.toNat_ofNat]
  omega

theorem appendBody_append {l r : List Byte} {s : State} (h : s.txwlen.toNat + 2 * l.length ≤ Config.txwCap) :
    appendBody r (appendBody l s) = appendBody (l ++ r) s := by
  have hw := txwlen_appendBody h
  rw [appendBody, hw]
  simp only [appendBody, escapeAll_append, sumBytes_append, Memory.writeRange_append, List.length_append,
    BitVec.ofNat_add, BitVec.add_assoc]

theorem encodeByte_of_le {b : Byte} {s : State} (h : s.txwlen.toNat + 2 ≤ Config.txwCap) :
    encodeByte b s = .next (appendBody [b] s) := by
  have hl := length_escapeAll_le [b]
  have hb : escapeAll [b] = esc b := List.append_nil (esc b)
  rw [Config.txwCap] at h
  rw [hb, List.length_singleton] at hl
  rw [encodeByte, emitEsc, emitAll_of_le (by omega), andThen_next]
  simp only [accumulate, appendBody, hb, sumBytes_cons, sumBytes_nil, add_zero]

/-- The payload loop takes the byte at PI, if it is there, and goes on. -/
theorem encodePayload_succ {n : Nat} {s : State} (hpi : s.pi.toNat < Config.maxPay)
    (hroom : s.txwlen.toNat + 2 ≤ Config.txwCap) :
    encodePayload (n + 1) s = (Memory.read s.txpay s.pi.toNat).elim (.fault .unwrittenByte) fun b =>
      encodePayload n { appendBody [b] s with pi := s.pi + 1 } := by
  have hsize : s.pi.toNat < Space.size .txpay := hpi
  cases hread : Memory.read s.txpay s.pi.toNat with
  | none => simp [encodePayload, fetchByte, State.mem, hsize, hread]
  | some b =>
    rw [encodePayload, fetchByte_of_read (s := s) _ hsize hread, encodeByte_of_le hroom]
    rfl

/-- The payload loop, whole: the bytes TXPAY[PI..PI+n) go into the frame, or one of them was never written. -/
theorem encodePayload_eq {n : Nat} {s : State} (hpi : s.pi.toNat + n ≤ Config.maxPay)
    (hroom : s.txwlen.toNat + 2 * n ≤ Config.txwCap) :
    encodePayload n s = (Memory.readRange s.txpay s.pi.toNat n).elim (.fault .unwrittenByte) fun p =>
      .next { appendBody p s with pi := s.pi + BitVec.ofNat 8 n } := by
  induction n generalizing s with
  | zero => simp [encodePayload, Memory.readRange, appendBody, Memory.writeRange]
  | succ n ih =>
    have hcap : Config.txwCap = 522 := rfl
    have hmax : Config.maxPay = 255 := rfl
    rw [encodePayload_succ (by omega) (by omega), Memory.readRange_succ]
    cases hread : Memory.read s.txpay s.pi.toNat with
    | none => rfl
    | some b =>
      have hb : s.txwlen.toNat + 2 * [b].length ≤ Config.txwCap := by rw [List.length_singleton]; omega
      have hw := txwlen_appendBody hb
      have hl := length_escapeAll_le [b]
      have hpi' : (s.pi + 1).toNat = s.pi.toNat + 1 := by bv_omega
      rw [List.length_singleton] at hl
      simp only [Option.elim_some, Option.bind_some]
      rw [ih (by simp only [hpi']; omega) (by simp only [hw]; omega)]
      simp only [hpi']
      change Option.elim (Memory.readRange s.txpay (s.pi.toNat + 1) n) _ _ = _
      cases Memory.readRange s.txpay (s.pi.toNat + 1) n with
      | none => rfl
      | some p =>
        have hadd : s.pi + 1 + BitVec.ofNat 8 n = s.pi + BitVec.ofNat 8 (n + 1) := by
          rw [Nat.add_comm, BitVec.ofNat_add, BitVec.add_assoc]
          rfl
        have hcons : appendBody p (appendBody [b] s) = appendBody (b :: p) s := appendBody_append hb
        simp only [Option.elim_some, Option.map_some, hadd, ← hcons]
        rfl

/-- TXW, TXWLEN and CSACC after the opening delimiter. -/
def frameStart (s : State) : State :=
  { s with txw := Memory.write s.txw 0 Config.delim, txwlen := 1, csacc := 0 }

/-- ENCODE after the payload: the checksum, the closing delimiter, the end. -/
def encodeTail (s : State) : Res :=
  andThen (emitEsc (~~~ s.csacc) s) fun t => andThen (emit Config.delim t) fun u => .next (encodeEnd u)

/-- ENCODE up to the payload always goes through. -/
theorem execEncode_head (s : State) :
    execEncode s = andThen
      (encodePayload s.txlen.toNat { appendBody [s.txadr, s.txcmd, s.txlen] (frameStart s) with pi := 0 })
      encodeTail := by
  have hemit : emit Config.delim { s with txwlen := 0, csacc := 0 } = .next (frameStart s) :=
    emit_of_lt (show (0 : Word).toNat < 522 by decide)
  have h0 : (frameStart s).txwlen.toNat = 1 := rfl
  have hcap : Config.txwCap = 522 := rfl
  have h1 : appendBody [s.txcmd] (appendBody [s.txadr] (frameStart s)) = appendBody [s.txadr, s.txcmd] (frameStart s) :=
    appendBody_append (by simp [h0, hcap])
  have h2 : appendBody [s.txlen] (appendBody [s.txadr, s.txcmd] (frameStart s))
      = appendBody [s.txadr, s.txcmd, s.txlen] (frameStart s) := appendBody_append (by simp [h0, hcap])
  have room (l : List Byte) (hl : l.length ≤ 3) : (appendBody l (frameStart s)).txwlen.toNat + 2 ≤ Config.txwCap := by
    have := length_escapeAll_le l
    rw [txwlen_appendBody (by rw [h0, hcap]; omega), h0, hcap]
    omega
  rw [execEncode, hemit, andThen_next, encodeByte_of_le (by rw [h0]; decide), andThen_next,
    encodeByte_of_le (room [_] (by simp)), andThen_next]
  change andThen (encodeByte s.txlen (appendBody [s.txcmd] (appendBody [s.txadr] (frameStart s)))) _ = _
  rw [h1, encodeByte_of_le (room [_, _] (by simp)), h2]
  rfl

theorem emitAll_append (l r : List Byte) (s : State) :
    emitAll (l ++ r) s = andThen (emitAll l s) (emitAll r) := by
  induction l generalizing s with
  | nil => rfl
  | cons b l ih =>
    rw [List.cons_append, emitAll, emitAll, andThen_assoc]
    exact congrArg (andThen (emit b s)) (funext ih)

theorem emitAll_singleton (b : Byte) (s : State) : emitAll [b] s = emit b s := by
  rw [emitAll]
  cases emit b s <;> rfl

theorem encodeTail_eq_emitAll (s : State) :
    encodeTail s = andThen (emitAll (esc (~~~ s.csacc) ++ [Config.delim]) s) fun t => .next (encodeEnd t) := by
  rw [emitAll_append, andThen_assoc]
  simp only [emitAll_singleton]
  rfl

/-- ENCODE after the payload closes the frame over the logical bytes it has put there. -/
theorem encodeTail_eq {l : List Byte} {s : State} (pi : Byte) (hl : 2 * l.length + 4 ≤ Config.txwCap) :
    encodeTail { appendBody l (frameStart s) with pi := pi } = .next (encodeEnd { s with
      txw := Memory.writeRange s.txw 0 (Config.delim :: (escapeAll (l ++ [checksum l]) ++ [Config.delim]))
      txwlen := BitVec.ofNat 16 (Config.delim :: (escapeAll (l ++ [checksum l]) ++ [Config.delim])).length
      csacc := sumBytes l
      pi := pi }) := by
  have hcap : Config.txwCap = 522 := rfl
  have h1 : (frameStart s).txwlen.toNat = 1 := rfl
  have hw : (appendBody l (frameStart s)).txwlen.toNat = 1 + (escapeAll l).length :=
    txwlen_appendBody (by rw [h1]; omega)
  have hle := length_escapeAll_le l
  have hsum : (appendBody l (frameStart s)).csacc = sumBytes l := zero_add _
  have hesc : escapeAll (l ++ [checksum l]) = escapeAll l ++ esc (checksum l) := by
    rw [escapeAll_append, escapeAll_cons, escapeAll_nil, List.append_nil]
  have hx := length_escapeAll_le [checksum l]
  rw [escapeAll_cons, escapeAll_nil, List.append_nil, List.length_singleton] at hx
  rw [encodeTail_eq_emitAll]
  simp only [hsum]
  change andThen (emitAll (esc (checksum l) ++ [Config.delim]) _) _ = _
  rw [emitAll_of_le (by simp only [hw, List.length_append, List.length_singleton]; omega), andThen_next]
  have htxw : Memory.writeRange (appendBody l (frameStart s)).txw (1 + (escapeAll l).length)
      (esc (checksum l) ++ [Config.delim]) =
      Memory.writeRange s.txw 0 (Config.delim :: (escapeAll l ++ esc (checksum l) ++ [Config.delim])) := by
    rw [List.append_assoc]
    exact (Memory.writeRange_append (Memory.write s.txw 0 Config.delim) 1 _ _).symm
  have hlen : (appendBody l (frameStart s)).txwlen + BitVec.ofNat 16 (esc (checksum l) ++ [Config.delim]).length =
      BitVec.ofNat 16 (Config.delim :: (escapeAll l ++ esc (checksum l) ++ [Config.delim])).length := by
    apply BitVec.eq_of_toNat_eq
    simp only [BitVec.toNat_add, hw, BitVec.toNat_ofNat, List.length_cons, List.length_append, List.length_nil]
    omega
  simp only [hw, hesc, htxw, hlen]
  rfl

/-- ENCODE, whole: its wire frame in TXW where the payload is written, else the fault. -/
theorem execEncode_eq (s : State) :
    execEncode s = (Memory.readRange s.txpay 0 s.txlen.toNat).elim (.fault .unwrittenByte) fun p =>
      .next (encodeEnd { s with
        txw := Memory.writeRange s.txw 0 (stuff s.txadr s.txcmd p)
        txwlen := BitVec.ofNat 16 (stuff s.txadr s.txcmd p).length
        csacc := sumBytes (logicalFields s.txadr s.txcmd p)
        pi := s.txlen }) := by
  have hcap : Config.txwCap = 522 := rfl
  have hmax : Config.maxPay = 255 := rfl
  have h1 : (frameStart s).txwlen.toNat = 1 := rfl
  have hb : (frameStart s).txwlen.toNat + 2 * [s.txadr, s.txcmd, s.txlen].length ≤ Config.txwCap := by
    simp [h1, hcap]
  have hw := txwlen_appendBody hb
  have hl := length_escapeAll_le [s.txadr, s.txcmd, s.txlen]
  have hn := s.txlen.isLt
  have hpi : (0 : Byte).toNat = 0 := rfl
  simp only [List.length_cons, List.length_nil] at hl
  rw [execEncode_head, encodePayload_eq (by simp only [hpi]; omega) (by simp only [hw, h1]; omega)]
  change andThen (Option.elim (Memory.readRange s.txpay 0 s.txlen.toNat) _ _) _ = _
  cases hread : Memory.readRange s.txpay 0 s.txlen.toNat with
  | none => rfl
  | some p =>
    have hp : p.length = s.txlen.toNat := (Memory.readRange_eq_some.1 hread).1
    have hfields : [s.txadr, s.txcmd, s.txlen] ++ p = logicalFields s.txadr s.txcmd p := by
      simp [logicalFields, hp]
    have happ := (appendBody_append (r := p) hb).trans (congrArg (appendBody · (frameStart s)) hfields)
    have htail := encodeTail_eq (l := logicalFields s.txadr s.txcmd p) (s := s) s.txlen
      (by simp only [logicalFields, List.length_cons, hp]; omega)
    rw [← happ] at htail
    have hend : (0 : Byte) + BitVec.ofNat 8 s.txlen.toNat = s.txlen := by simp
    simp only [Option.elim_some, andThen_next, hend]
    exact htail

/-- A wire frame fits TXW (rule R157). -/
theorem length_stuff_le {a c : Byte} {p : List Byte} (hp : p.length ≤ Config.maxPay) :
    (stuff a c p).length ≤ Config.txwCap := by
  have hl := length_escapeAll_le (logicalBody a c p)
  simp only [logicalBody, logicalFields, List.length_append, List.length_cons, List.length_nil] at hl
  simp only [stuff, logicalBody, logicalFields, List.length_append, List.length_cons, List.length_nil]
  rw [Config.maxPay] at hp
  rw [Config.txwCap]
  omega

/-- Settles O18: the payload loop is reached and stops at the byte nothing has written. -/
theorem encodeOfUnwrittenPayloadFaults : Obligations.EncodeOfUnwrittenPayloadFaults := by
  intro s hread
  rw [exec, execEncode_eq, hread]
  rfl

end Sys2Proof.Machine
end

section
/-! ## The invariant of the block: reset, and what no clause of it speaks of

Inv is kept clause by clause. An update of fields that no clause names keeps all of them; the others name the clause they
touch. -/

namespace Sys2Proof.Machine

/-- The registers, streams and cursors no clause of Inv speaks of, at will. -/
theorem Inv.of_frame {s t : State} (h : Inv s)
    (ht : t = { s with
      txadr := t.txadr, txcmd := t.txcmd, txlen := t.txlen, csacc := t.csacc, txs := t.txs, pi := t.pi, rd := t.rd
      wr := t.wr, inputs := t.inputs, answers := t.answers, draws := t.draws, freeCtr := t.freeCtr
      portLog := t.portLog, session := t.session }) : Inv t := by
  rw [ht]
  exact { h with }

theorem inv_succeed {s : State} (h : Inv s) : Inv (succeed s) :=
  { h with errOfBlock := ⟨nofun, nofun⟩ }

theorem inv_raise {s : State} (h : Inv s) {e : ErrorKind} (he : e ≠ .unsupportedCommand ∧ e ≠ .dataError) :
    Inv (raise e s) :=
  { h with codecIdle := ⟨rfl, rfl⟩, errOfBlock := he }

theorem inv_endWrite {s : State} (h : Inv s) (k m : Nat) : Inv (endWrite k m s) := by
  obtain ⟨henc, hdec⟩ := h.codecIdle
  refine { h with codecIdle := ⟨?_, ?_⟩, errOfBlock := ?_ }
  · rw [endWrite_encst, henc, ite_self]
  · rw [endWrite_decst, hdec, ite_self]
  · rw [endWrite_err]
    split <;> decide

theorem State.mem_setMem (s : State) (sp sp' : Space) (m : Memory) :
    (s.setMem sp m).mem sp' = if sp' = sp then m else s.mem sp' := by
  cases sp <;> cases sp' <;> rfl

/-- The buffers after one of them is replaced. -/
theorem BuffersInBounds.setMem {s : State} (h : BuffersInBounds s) {sp : Space} {m : Memory}
    (hm : Memory.Within sp.size m) : BuffersInBounds (s.setMem sp m) := by
  intro sp'
  rw [State.mem_setMem]
  split
  · next heq => exact heq ▸ hm
  · exact h sp'

theorem BuffersInBounds.within {s : State} (h : BuffersInBounds s) (sp : Space) : Memory.Within sp.size (s.mem sp) :=
  h sp

theorem inv_reset : Inv State.reset where
  codecIdle := ⟨rfl, rfl⟩
  buffers sp := ⟨reset_mem_wf sp, by cases sp <;> exact nofun⟩
  errOfBlock := ⟨nofun, nofun⟩
  armed := nofun
  overflow := nofun
  txFrame := nofun
  noFrame _ := rfl
  rxFrame := nofun

theorem inv_resetBlock (s : State) : Inv (resetBlock s) := inv_reset.of_frame rfl

theorem inv_hardwareReset (s : State) : Inv (hardwareReset s) := inv_reset.of_frame rfl

/-- Settles O3: no flag is set, no buffer holds a byte, and no session operation runs. -/
theorem resetMeetsBlockInvariant : Obligations.ResetMeetsBlockInvariant :=
  ⟨inv_reset, nofun, nofun⟩

end Sys2Proof.Machine
end

section
/-! ## The channel side keeps the invariant (rules R200 to R208) -/

namespace Sys2Proof.Machine

/-- Everything TXSEND can do: IllegalOp, or the bytes the channel takes go out (rules R200 to R202). -/
theorem execTxsend_cases {s t : State} (h : execTxsend s = .next t) :
    t = raise .illegalOp s ∨
    ∃ bs : List Byte, t = endWrite (channelAnswer s.txwlen.toNat s) s.txwlen.toNat (txOut bs (afterAnswer s)) := by
  unfold execTxsend at h
  split at h
  · split at h
    · cases h
    · cases h
      exact .inr ⟨_, rfl⟩
  · cases h
    exact .inl rfl

theorem inv_execTxsend {s t : State} (hs : Inv s) (h : execTxsend s = .next t) : Inv t := by
  rcases execTxsend_cases h with rfl | ⟨bs, rfl⟩
  · exact inv_raise hs ⟨nofun, nofun⟩
  · exact inv_endWrite (hs.of_frame rfl) _ _

theorem inv_execPrime {s t : State} (hs : Inv s) (h : execPrime s = .next t) : Inv t := by
  cases h
  exact inv_endWrite (hs.of_frame rfl) _ _

theorem inv_execRxarm {s t : State} (hs : Inv s) (h : execRxarm s = .next t) : Inv t := by
  cases h
  refine inv_succeed { hs with armed := fun _ => ?_, overflow := nofun, rxFrame := nofun }
  exact ⟨Nat.zero_lt_succ _, Nat.zero_lt_succ _, rfl, rfl, [], rfl, rfl⟩

/-- Closing a collection keeps the invariant: it gathered no decoded frame. -/
theorem inv_flagsClose {s : State} (hs : Inv s) : Inv (flagsClose s) :=
  { hs with armed := nofun, overflow := fun _ => rfl }

theorem inv_execRxstop {s t : State} (hs : Inv s) (h : execRxstop s = .next t) : Inv t := by
  cases h
  split
  · exact inv_succeed (inv_flagsClose hs)
  · exact inv_succeed hs

/-- A stored byte keeps DCNT the number of delimiters among the bytes gathered (rules R26, R204). -/
theorem CollectionOpen.store {s : State} (h : CollectionOpen s) (b : Byte) :
    ∃ bs : List Byte,
      Memory.readRange (Memory.write s.rxb s.rxlen.toNat b) 0 (s.rxlen + 1).toNat = some bs ∧
      (if b = Config.delim then s.dcnt + 1 else s.dcnt).toNat = bs.count Config.delim := by
  obtain ⟨hroom, hdcnt, -, -, bs, hread, hcount⟩ := h
  rw [Config.rxCap] at hroom
  have hlen : (s.rxlen + 1).toNat = s.rxlen.toNat + 1 := by bv_omega
  refine ⟨bs ++ [b], ?_, ?_⟩
  · rw [hlen]
    refine Memory.readRange_concat ?_ ?_
    · rwa [Memory.readRange_write_of_le _ (by omega)]
    · rw [Nat.zero_add, Memory.read_write_same]
  · rw [List.count_append, List.count_singleton, ← hcount]
    by_cases hb : b = Config.delim
    · simp only [hb, if_true, beq_self_eq_true]
      bv_omega
    · simp [hb]

/-- The collector keeps the invariant: the byte goes into an open collection, which stays open or closes. -/
theorem inv_collect {b : Byte} {s t : State} (hs : Inv s) (h : collect b s = .next t) : Inv t := by
  rcases collect_eq_next.1 h with ⟨-, rfl⟩ | ⟨harmed, hroom, rfl⟩
  · exact hs
  have hopen := hs.armed harmed
  obtain ⟨bs, hread, hcount⟩ := hopen.store b
  obtain ⟨-, hdcnt, hdone, hvalid, -⟩ := hopen
  have hbuf : BuffersInBounds (countByte b { s with rxb := Memory.write s.rxb s.rxlen.toNat b }) :=
    hs.buffers.setMem (sp := .rxb) ((hs.buffers.within .rxb).write hroom b)
  have hclosed : Inv (flagsClose (countByte b { s with rxb := Memory.write s.rxb s.rxlen.toNat b })) :=
    { hs with
      buffers := hbuf, armed := nofun, overflow := fun _ => rfl, rxFrame := fun h => nomatch hvalid.symm.trans h }
  unfold closeIfDone
  split
  · exact hclosed
  next htwo =>
  split
  · exact { hclosed with overflow := fun _ => rfl }
  next hfull =>
  refine { hclosed with
    armed := fun _ => ⟨?_, ?_, hdone, hvalid, bs, hread, hcount⟩, overflow := hs.overflow }
  · simp only [countByte_rxlen, Config.rxCap] at hfull ⊢
    bv_omega
  · have hle : (if b = Config.delim then s.dcnt + 1 else s.dcnt).toNat ≤ 2 := by split <;> bv_omega
    simp only [countByte_dcnt] at htwo ⊢
    bv_omega

theorem inv_collectAll {bs : List Byte} {s t : State} (hs : Inv s) (h : collectAll bs s = .next t) : Inv t := by
  induction bs generalizing s with
  | nil => cases h; exact hs
  | cons b bs ih =>
    obtain ⟨u, hu, ht⟩ := andThen_eq_next.1 h
    exact ih (inv_collect hs hu) ht

/-- Between operations a wire symbol is its bytes, one after another, to the collector (rule R205). -/
theorem exec_wire_of_codecIdle {i : Instr} {s : State} (hi : i.isWire = true) (hs : CodecIdle s) :
    exec i s = collectAll (wireBytes i) s := by
  have henc : ∀ bs, wireOutsideScan bs s = collectAll bs s := fun bs => if_pos hs.1
  have hdec : s.decst ≠ .scan := by rw [hs.2]; exact nofun
  cases i with
  | delim => exact (if_neg hdec).trans (henc _)
  | esc11 | esc13 | esc7d | esc7e => exact (if_neg hdec).trans (henc _)
  | lit b => exact (if_neg hdec).trans (henc _)
  | _ => cases hi

end Sys2Proof.Machine
end

section
/-! ## DECODE keeps the invariant

An error leaves RXVALID 0. Where the tests of steps 3 and 4 pass, the bytes RXB[0..WR) the sum and the comparison went over
are a logical body (rules R91, R178, R179). -/

namespace Sys2Proof.Machine

/-- `u` stands in a DECODE that began in `s`: RXVALID is 0, RXB and the working registers alone have changed, and RXB is in
bounds. -/
structure DecodeFrom (s u : State) : Prop where
  frame : u = { s with
    rxvalid := false, rxb := u.rxb, rxusz := u.rxusz, csacc := u.csacc, wr := u.wr, rd := u.rd, decst := u.decst }
  within : Memory.Within Config.rxCap u.rxb

/-- Any error of DECODE keeps the invariant. -/
theorem inv_raiseDecode {s u : State} {e : ErrorKind} (hs : Inv s) (hu : DecodeFrom s u)
    (hrefused : decodeRefused s = false) (he : e ≠ .unsupportedCommand ∧ e ≠ .dataError) : Inv (raiseDecode e u) := by
  obtain ⟨harmed, hlen⟩ : s.rxarmed = false ∧ s.rxlen.toNat ≤ Config.rxCap := by
    simpa [decodeRefused] using hrefused
  have hbuf : Memory.Within Config.rxCap (Memory.writeRange u.rxb 0 (freeBytes s.freeCtr s.rxlen.toNat)) :=
    hu.within.writeRange (by rwa [length_freeBytes, Nat.zero_add])
  rw [hu.frame]
  exact { hs with
    codecIdle := ⟨rfl, rfl⟩
    errOfBlock := he
    buffers := hs.buffers.setMem (sp := .rxb) hbuf
    armed := fun h => nomatch harmed.symm.trans h
    rxFrame := nofun }

/-- The end of DECODE keeps the invariant if RXB[0..RXUSZ) is the frame its results name. -/
theorem inv_decodeEnd {s u : State} {a c n : Byte} (hs : Inv s) (hu : DecodeFrom s u)
    (hrefused : decodeRefused s = false) (hframe : FrameInRxb (decodeEnd a c n u)) : Inv (decodeEnd a c n u) := by
  obtain ⟨harmed, -⟩ : s.rxarmed = false ∧ s.rxlen.toNat ≤ Config.rxCap := by
    simpa [decodeRefused] using hrefused
  have hrx : (decodeEnd a c n u).rxvalid = true → FrameInRxb (decodeEnd a c n u) := fun _ => hframe
  rw [hu.frame] at hrx ⊢
  exact { hs with
    codecIdle := ⟨hs.codecIdle.1, rfl⟩
    errOfBlock := ⟨nofun, nofun⟩
    buffers := hs.buffers.setMem (sp := .rxb) hu.within
    armed := fun h => nomatch harmed.symm.trans h
    rxFrame := hrx }

/-- A logical byte written in the scan. -/
theorem DecodeFrom.put {s u : State} (h : DecodeFrom s u) (hw : u.wr.toNat < 522) (raw : Byte) (rd : Word) :
    DecodeFrom s { u with rxb := Memory.write u.rxb u.wr.toNat raw, wr := u.wr + 1, rd := rd } where
  frame := by rw [h.frame]
  within := h.within.write hw raw

/-- The scan ends in an error of step 2 or goes on to step 3, CSACC still 0 (rules R174 to R177). -/
theorem DecodeFrom.scan {fuel : Nat} {s u t : State} (hu : DecodeFrom s u) (hdec : u.decst = .scan)
    (hacc : u.csacc = 0) (h : scanLoop fuel u = .next t) :
    ∃ v, DecodeFrom s v ∧
      ((∃ e, (e = .frameError ∨ e = .unknownEscapeCode) ∧ t = raiseDecode e v) ∨
        (v.csacc = 0 ∧ decodeLength v = .next t)) := by
  induction fuel generalizing u with
  | zero => exact ⟨u, hu, .inr ⟨hacc, h⟩⟩
  | succ fuel ih =>
    unfold scanLoop at h
    split at h
    · obtain ⟨v, hv, h⟩ := andThen_eq_next.1 h
      rcases scanSymbol_cases hv with rfl | rfl | ⟨raw, hw, rfl | rfl⟩
      · cases h
        exact ⟨u, hu, .inl ⟨_, .inl rfl, rfl⟩⟩
      · cases h
        exact ⟨{ u with rd := u.rd + 1 }, ⟨by rw [hu.frame], hu.within⟩, .inl ⟨_, .inr rfl, rfl⟩⟩
      · rw [if_pos hdec] at h
        exact ih (hu.put hw raw (u.rd + 1)) hdec hacc h
      · rw [if_pos hdec] at h
        exact ih (hu.put hw raw (u.rd + 1 + 1)) hdec hacc h
    · exact ⟨u, hu, .inr ⟨hacc, h⟩⟩

/-- The sum of step 4 adds the bytes from RD on (rules R131, R179). -/
theorem sumLoop_eq_next {k : Nat} {s t : State} (h : sumLoop k s = .next t) :
    ∃ (bs : List Byte) (v : State), Memory.readRange s.rxb s.rd.toNat k = some bs ∧
      v = { s with csacc := s.csacc + sumBytes bs, rd := s.rd + BitVec.ofNat 16 k } ∧ compareChecksum v = .next t := by
  induction k generalizing s with
  | zero => exact ⟨[], s, rfl, by simp, h⟩
  | succ k ih =>
    obtain ⟨hlt, b, hread, h⟩ := fetchByte_eq_next.1 h
    obtain ⟨bs, v, hbs, hv, hc⟩ := ih h
    have hrd : (s.rd + 1).toNat = s.rd.toNat + 1 := by
      simp only [Space.size, Config.rxCap] at hlt
      bv_omega
    have hadd : s.rd + 1 + BitVec.ofNat 16 k = s.rd + BitVec.ofNat 16 (k + 1) := by
      rw [Nat.add_comm, BitVec.ofNat_add, BitVec.add_assoc]
      rfl
    refine ⟨b :: bs, v, ?_, ?_, hc⟩
    · simp only [hrd] at hbs
      rw [Memory.readRange_succ, show Memory.read s.rxb s.rd.toNat = some b from hread, Option.bind_some]
      exact congrArg (Option.map (List.cons b)) hbs
    · rw [hv, sumBytes_cons, ← BitVec.add_assoc, ← hadd]
      rfl

/-- The length test of step 3 compares numbers (rule R138). -/
theorem lengthMatches_iff {l : Byte} {usz : Word} : lengthMatches l usz = true ↔ usz.toNat = l.toNat + Config.ovh := by
  rw [lengthMatches, beq_iff_eq, Config.ovh]
  constructor <;> intro h <;> bv_omega

/-- Bytes that begin with address, command and length, the length being right, are the logical fields of a frame. -/
theorem exists_logicalFields {l : List Byte} {a c n : Byte} (ha : l[0]? = some a) (hc : l[1]? = some c)
    (hn : l[2]? = some n) (hlen : l.length = n.toNat + 3) :
    ∃ p : List Byte, p.length = n.toNat ∧ l = logicalFields a c p := by
  match l with
  | x :: y :: z :: p =>
    cases ha
    cases hc
    cases hn
    have hp : p.length = n.toNat := by simpa using hlen
    exact ⟨p, hp, by simp [logicalFields, hp]⟩

/-- RXB[0..RXUSZ) is the frame DECODE ends with, if its length and its checksum are right (rules R178 to R180). -/
theorem frameInRxb_decodeEnd {u : State} {bs : List Byte} {a c n : Byte}
    (hbs : Memory.readRange u.rxb 0 (u.rxusz.toNat - 1) = some bs) (hlen : u.rxusz.toNat = n.toNat + Config.ovh)
    (ha : Memory.read u.rxb 0 = some a) (hc : Memory.read u.rxb 1 = some c) (hn : Memory.read u.rxb 2 = some n)
    (hx : Memory.read u.rxb (u.rxusz.toNat - 1) = some (checksum bs)) : FrameInRxb (decodeEnd a c n u) := by
  rw [Config.ovh] at hlen
  obtain ⟨hl, hread⟩ := Memory.readRange_eq_some.1 hbs
  have hat (j : Nat) (hj : j < 3) : bs[j]? = Memory.read u.rxb j := by rw [← hread j (by omega), Nat.zero_add]
  obtain ⟨p, hp, rfl⟩ := exists_logicalFields ((hat 0 (by decide)).trans ha) ((hat 1 (by decide)).trans hc)
    ((hat 2 (by decide)).trans hn) (by omega)
  have hbody := Memory.readRange_concat hbs (by rwa [Nat.zero_add])
  rw [show u.rxusz.toNat - 1 + 1 = u.rxusz.toNat by omega] at hbody
  exact ⟨p, hp, hlen.trans (by rw [hp, Config.ovh]), hbody⟩

/-- Steps 3 to 5: an error, or the frame that RXB[0..RXUSZ) then is (rules R178 to R180). -/
theorem DecodeFrom.length {s u t : State} (hu : DecodeFrom s u) (hacc : u.csacc = 0) (h : decodeLength u = .next t) :
    ∃ v, DecodeFrom s v ∧
      ((∃ e, (e = .frameError ∨ e = .checksumMismatch) ∧ t = raiseDecode e v) ∨
        ∃ a c n, t = decodeEnd a c n v ∧ FrameInRxb t) := by
  obtain ⟨-, l, hl, h⟩ := fetchByte_eq_next.1 h
  split at h
  next hmatch =>
    have hwr := lengthMatches_iff.1 hmatch
    obtain ⟨bs, v, hbs, hv, hcompare⟩ := sumLoop_eq_next h
    have hfrom : DecodeFrom s v := by rw [hv]; exact ⟨by rw [hu.frame], hu.within⟩
    refine ⟨v, hfrom, ?_⟩
    rcases compareChecksum_cases hcompare with rfl | ⟨a, c, n, ha, hc, hn, hx, rfl⟩
    · exact .inl ⟨_, .inr rfl, rfl⟩
    · have hrd : v.rd.toNat = v.rxusz.toNat - 1 := by rw [hv]; bv_omega
      have hsum : v.csacc = sumBytes bs := by rw [hv, hacc]; exact zero_add _
      have hln : l = n := by
        rw [hv] at hn
        exact Option.some.inj (hl.symm.trans hn)
      rw [hrd, hsum] at hx
      refine .inr ⟨a, c, n, rfl, frameInRxb_decodeEnd (bs := bs) ?_ ?_ ha hc hn hx⟩
      · rw [hv]; exact hbs
      · rw [hv, ← hln]; exact hwr
  · cases h
    exact ⟨{ u with rxusz := u.wr }, ⟨by rw [hu.frame], hu.within⟩, .inl ⟨_, .inl rfl, rfl⟩⟩

theorem inv_execDecode {s t : State} (hs : Inv s) (h : execDecode s = .next t) : Inv t := by
  unfold execDecode at h
  split at h
  · cases h
    exact inv_raise hs ⟨nofun, nofun⟩
  next hrefused =>
  rw [Bool.not_eq_true] at hrefused
  have hstart : DecodeFrom s (decodeStart s) := ⟨rfl, hs.buffers .rxb⟩
  rcases decodeHeader_cases h with rfl | ⟨-, -, -, h⟩
  · exact inv_raiseDecode hs hstart hrefused ⟨nofun, nofun⟩
  have hscan : DecodeFrom s { decodeStart s with rd := 1, wr := 0, decst := .scan } := ⟨rfl, hs.buffers .rxb⟩
  obtain ⟨v, hv, ⟨e, he, rfl⟩ | ⟨hacc, h⟩⟩ := hscan.scan rfl rfl h
  · exact inv_raiseDecode hs hv hrefused (by rcases he with rfl | rfl <;> decide)
  obtain ⟨w, hw, ⟨e, he, rfl⟩ | ⟨a, c, n, rfl, hframe⟩⟩ := hv.length hacc h
  · exact inv_raiseDecode hs hw hrefused (by rcases he with rfl | rfl <;> decide)
  · exact inv_decodeEnd hs hw hrefused hframe

end Sys2Proof.Machine
end

section
/-! ## Every step keeps the invariant

The commands, the wire symbols and the host's accesses one by one; a move of the session is an access and an update of the
session's own fields (rules R60 to R67, R230 to R238). -/

namespace Sys2Proof.Machine

/-- ENCODE leaves a complete wire frame in TXW[0..TXWLEN) (rule R150). -/
theorem inv_execEncode {s t : State} (hs : Inv s) (h : execEncode s = .next t) : Inv t := by
  rw [execEncode_eq] at h
  cases hread : Memory.readRange s.txpay 0 s.txlen.toNat with
  | none =>
    rw [hread] at h
    cases h
  | some p =>
    rw [hread] at h
    cases h
    have hp : p.length ≤ Config.maxPay := by
      have hlt := s.txlen.isLt
      rw [(Memory.readRange_eq_some.1 hread).1, Config.maxPay]
      omega
    have hfit := length_stuff_le (a := s.txadr) (c := s.txcmd) hp
    have hlen : (BitVec.ofNat 16 (stuff s.txadr s.txcmd p).length).toNat = (stuff s.txadr s.txcmd p).length := by
      rw [Config.txwCap] at hfit
      rw [BitVec.toNat_ofNat]
      omega
    have hframe := Memory.readRange_writeRange s.txw 0 (stuff s.txadr s.txcmd p)
    exact { hs with
      codecIdle := ⟨rfl, hs.codecIdle.2⟩
      errOfBlock := ⟨nofun, nofun⟩
      buffers := hs.buffers.setMem (sp := .txw) ((hs.buffers.within .txw).writeRange (by rwa [Nat.zero_add]))
      txFrame := fun _ => ⟨s.txadr, s.txcmd, p, hp, by rw [← hlen] at hframe; exact hframe⟩
      noFrame := nofun }

/-- Every instruction keeps the invariant. -/
theorem inv_exec {i : Instr} {s t : State} (hs : Inv s) (h : exec i s = .next t) : Inv t := by
  cases i with
  | nop => cases h; exact hs
  | encode => exact inv_execEncode hs h
  | decode => exact inv_execDecode hs h
  | txsend => exact inv_execTxsend hs h
  | rxarm => exact inv_execRxarm hs h
  | rxstop => exact inv_execRxstop hs h
  | prime => exact inv_execPrime hs h
  | csclr => cases h; exact inv_succeed (hs.of_frame rfl)
  | csadd imm => cases h; exact inv_succeed (hs.of_frame rfl)
  | reset => cases h; exact inv_resetBlock s
  | reserved op => cases h; exact inv_raise hs ⟨nofun, nofun⟩
  | rxbyte b => exact inv_collect hs h
  | delim | esc11 | esc13 | esc7d | esc7e | lit b =>
    rw [exec_wire_of_codecIdle rfl hs.codecIdle] at h
    exact inv_collectAll hs h

/-! ### The host port -/

/-- A write of RXLEN or RXB while nothing is armed: RXVALID is cleared, so no frame is claimed of the new contents. -/
theorem inv_invalidate {s : State} (hs : Inv s) (harmed : s.rxarmed = false) (n : Word) {m : Memory}
    (hm : Memory.Within Config.rxCap m) : Inv { flagsInvalidate s with rxlen := n, rxb := m } :=
  { hs with
    buffers := hs.buffers.setMem (sp := .rxb) hm
    armed := fun h => nomatch harmed.symm.trans h
    rxFrame := nofun }

/-- A register read that answers hands the value to the host (rule R61). -/
theorem hostRegRead_eq_next {n : Nat} {s t : State} (h : hostRegRead n s = .next t) :
    ∃ v, regValue n s = some v ∧ t = answer v s := by
  unfold hostRegRead at h
  split at h
  · cases h
  · next v hv => cases h; exact ⟨v, hv, rfl⟩

/-- A buffer read that answers hands the byte to the host (rule R63). -/
theorem hostBufRead_eq_next {sp : Space} {i : Nat} {s t : State} (h : hostBufRead sp i s = .next t) :
    ∃ b, Memory.read (s.mem sp) i = some b ∧ t = answer (.byte b) s := by
  unfold hostBufRead at h
  split at h
  · split at h
    · cases h
    · next b hb => cases h; exact ⟨b, hb, rfl⟩
  · cases h

/-- A register write that answers started an operation, wrote a transmit operand or nothing, or wrote RXLEN (rules R62,
R65, R67). -/
theorem hostRegWrite_cases {n : Nat} {v : PortValue} {s t : State} (h : hostRegWrite n v s = .next t) :
    (∃ w, n = 0 ∧ v = .half w ∧ exec (decodeCmd w) s = .next t) ∨
    (∃ a c l : Byte, t = { s with txadr := a, txcmd := c, txlen := l }) ∨
    (s.rxarmed = false ∧ ∃ w : Word, t = { flagsInvalidate s with rxlen := w }) := by
  unfold hostRegWrite at h
  split at h
  · cases h
  split at h
  · exact .inl ⟨_, rfl, rfl, h⟩
  · cases h; exact .inr (.inl ⟨_, _, _, rfl⟩)
  · cases h; exact .inr (.inl ⟨_, _, _, rfl⟩)
  · cases h; exact .inr (.inl ⟨_, _, _, rfl⟩)
  · unfold writeRxlen at h
    split at h
    · cases h
    · next harmed => cases h; exact .inr (.inr ⟨Bool.eq_false_iff.2 harmed, _, rfl⟩)
  · split at h
    · cases h; exact .inr (.inl ⟨_, _, _, rfl⟩)
    · cases h

/-- A buffer write that answers was dropped, or wrote one byte of TXPAY or of RXB (rules R64 to R67). -/
theorem hostBufWrite_cases {sp : Space} {i : Nat} {v : Byte} {s t : State} (h : hostBufWrite sp i v s = .next t) :
    t = s ∨
    (i < Config.maxPay ∧ t = { s with txpay := Memory.write s.txpay i v }) ∨
    (s.rxarmed = false ∧ i < Config.rxCap ∧ t = { flagsInvalidate s with rxb := Memory.write s.rxb i v }) := by
  unfold hostBufWrite at h
  split at h
  next hi =>
    cases sp with
    | txpay => cases h; exact .inr (.inl ⟨hi, rfl⟩)
    | txw => cases h; exact .inl rfl
    | rxb =>
      simp only at h
      split at h
      · cases h
      · next harmed => cases h; exact .inr (.inr ⟨Bool.eq_false_iff.2 harmed, hi, rfl⟩)
  · cases h

theorem inv_hostRegWrite {n : Nat} {v : PortValue} {s t : State} (hs : Inv s) (h : hostRegWrite n v s = .next t) :
    Inv t := by
  rcases hostRegWrite_cases h with ⟨w, -, -, h⟩ | ⟨a, c, l, rfl⟩ | ⟨harmed, w, rfl⟩
  · exact inv_exec hs h
  · exact hs.of_frame rfl
  · exact inv_invalidate hs harmed w (hs.buffers.within .rxb)

theorem inv_hostBufWrite {sp : Space} {i : Nat} {v : Byte} {s t : State} (hs : Inv s)
    (h : hostBufWrite sp i v s = .next t) : Inv t := by
  rcases hostBufWrite_cases h with rfl | ⟨hi, rfl⟩ | ⟨harmed, hi, rfl⟩
  · exact hs
  · exact { hs with buffers := hs.buffers.setMem (sp := .txpay) ((hs.buffers.within .txpay).write hi v) }
  · exact inv_invalidate hs harmed _ ((hs.buffers.within .rxb).write hi v)

/-- Every host access keeps the invariant. -/
theorem inv_hostAccess {a : Access} {s t : State} (hs : Inv s) (h : hostAccess a s = .next t) : Inv t := by
  cases a with
  | regRead n =>
    obtain ⟨v, -, rfl⟩ := hostRegRead_eq_next h
    exact hs.of_frame rfl
  | regWrite n v => exact inv_hostRegWrite hs h
  | bufRead sp i =>
    obtain ⟨b, -, rfl⟩ := hostBufRead_eq_next h
    exact hs.of_frame rfl
  | bufWrite sp i v => exact inv_hostBufWrite hs h

/-! ### The session -/

theorem inv_sessionReturn {s : State} (hs : Inv s) (r : SessionResult) : Inv (sessionReturn r s) := hs.of_frame rfl

theorem inv_sessionGo {s : State} (hs : Inv s) (acts : List HostAct) : Inv (sessionGo acts s) := hs.of_frame rfl

theorem inv_afterSend {s : State} (hs : Inv s) (x : Bool) (rest : List HostAct) : Inv (afterSend x rest s) := by
  unfold afterSend
  split
  · exact inv_sessionGo hs _
  split
  · exact inv_sessionGo hs _
  · exact inv_sessionReturn hs _

/-- A move that is an access and then an update `k` of what the host's software holds. -/
theorem inv_access_then {a : Access} {k : State → State} {s t : State} (hs : Inv s) (hk : ∀ u, Inv u → Inv (k u))
    (h : andThen (hostAccess a s) (fun u => .next (k u)) = .next t) : Inv t := by
  obtain ⟨u, hu, ht⟩ := andThen_eq_next.1 h
  cases ht
  exact hk u (inv_hostAccess hs hu)

theorem inv_returnRaw {s t : State} (hs : Inv s) (h : returnRaw s = .next t) : Inv t := by
  unfold returnRaw at h
  split at h
  · cases h
  · cases h; exact inv_sessionReturn hs _

theorem inv_sessionStatusTest {rest : List HostAct} {s t : State} (hs : Inv s)
    (h : sessionStatusTest rest s = .next t) : Inv t := by
  unfold sessionStatusTest at h
  split at h
  · cases h
  · cases h
    split
    · exact inv_sessionGo hs _
    · exact inv_sessionReturn hs _

theorem inv_sessionCopy {i n : Nat} {s t : State} (hs : Inv s) (h : sessionCopy i n s = .next t) : Inv t := by
  unfold sessionCopy at h
  split at h
  · split at h
    · cases h
    · exact inv_access_then hs (fun u hu => hu.of_frame rfl) h
  · cases h; exact inv_sessionReturn hs _

/-- Every move of the session keeps the invariant. -/
theorem inv_sessionTurn {s t : State} (hs : Inv s) (h : sessionTurn s = .next t) : Inv t := by
  cases htodo : s.session.todo with
  | nil =>
    rw [sessionTurn, htodo] at h
    cases h
    exact hs
  | cons m rest =>
    rw [sessionTurn, htodo] at h
    cases m with
    | access a => exact inv_access_then hs (fun u hu => inv_sessionGo hu _) h
    | checkSend x => exact inv_access_then hs (fun u hu => inv_afterSend hu _ _) h
    | poll =>
      refine inv_access_then hs (fun u hu => ?_) h
      split
      · exact inv_sessionGo hu _
      · exact hu
    | rawResult =>
      obtain ⟨u, hu, h⟩ := andThen_eq_next.1 h
      exact inv_returnRaw (inv_hostAccess hs hu) h
    | checkDecode =>
      refine inv_access_then hs (fun u hu => ?_) h
      split
      · exact inv_sessionGo hu _
      · exact inv_sessionReturn hu _
    | statusTest => exact inv_sessionStatusTest hs h
    | capacityTest =>
      refine inv_access_then hs (fun u hu => ?_) h
      split
      · exact inv_sessionReturn hu _
      · exact inv_sessionGo hu _
    | copy i n => exact inv_sessionCopy hs h
    | finish r =>
      cases h
      exact inv_sessionReturn hs _

theorem inv_sessionCall {c : SessionCall} {s t : State} (hs : Inv s) (h : sessionCall c s = .next t) : Inv t := by
  unfold sessionCall at h
  split at h
  · cases h
  split at h
  · cases h
  · cases h; exact hs.of_frame rfl

theorem inv_sessionDeadline {s : State} (hs : Inv s) : Inv (sessionDeadline s) := by
  unfold sessionDeadline
  split
  · exact inv_sessionGo hs _
  · exact hs

/-! ### The step -/

theorem inv_serveWire {bs : List Byte} {s t : State} (hs : Inv s) (h : serveWire bs s = .next t) : Inv t := by
  unfold serveWire at h
  split at h
  · exact inv_exec hs h
  · exact inv_collectAll hs h

theorem inv_serve {e : Input} {s t : State} (hs : Inv s) (h : serve e s = .next t) : Inv t := by
  cases e with
  | host a => exact inv_hostAccess hs h
  | rxByte b => exact inv_collect hs h
  | wire bs => exact inv_serveWire hs h
  | hardReset => cases h; exact inv_hardwareReset s
  | call c => exact inv_sessionCall hs h
  | turn => exact inv_sessionTurn hs h
  | deadline => cases h; exact inv_sessionDeadline hs

/-- Settles O4: taking the event from the queue changes nothing the invariant speaks of, and every event keeps it. -/
theorem everyStepKeepsBlockInvariant : Obligations.EveryStepKeepsBlockInvariant := by
  intro s t hs h
  cases hinputs : s.inputs with
  | nil =>
    rw [step_of_inputs_nil hinputs] at h
    cases h
    exact hs
  | cons e rest =>
    rw [step_of_inputs_cons hinputs] at h
    exact inv_serve (hs.of_frame rfl) h

end Sys2Proof.Machine
end

section
/-! ## What each operation leaves unchanged

One frame for each operation that can do more than one thing and for the host's accesses, and from them what every
instruction can touch; the rules over all operations (R24, R25, R28, R29, R34) read it off. -/

namespace Sys2Proof.Machine

theorem collect_frame {b : Byte} {s t : State} (h : collect b s = .next t) :
    t = { s with
      rxb := t.rxb, rxlen := t.rxlen, dcnt := t.dcnt, rxarmed := t.rxarmed, rxdone := t.rxdone, rxovf := t.rxovf } := by
  rcases collect_eq_next.1 h with ⟨-, rfl⟩ | ⟨-, -, rfl⟩
  · rfl
  · rw [closeIfDone_frame]
    rfl

theorem collectAll_frame {bs : List Byte} {s t : State} (h : collectAll bs s = .next t) :
    t = { s with
      rxb := t.rxb, rxlen := t.rxlen, dcnt := t.dcnt, rxarmed := t.rxarmed, rxdone := t.rxdone, rxovf := t.rxovf } := by
  induction bs generalizing s with
  | nil => cases h; rfl
  | cons b bs ih =>
    obtain ⟨u, hu, ht⟩ := andThen_eq_next.1 h
    rw [ih ht, collect_frame hu]

theorem execTxsend_frame {s t : State} (h : execTxsend s = .next t) :
    ∃ bs : List Byte, t = { s with
      txs := s.txs ++ bs, err := t.err, encst := t.encst, decst := t.decst, answers := t.answers, draws := t.draws } := by
  rcases execTxsend_cases h with rfl | ⟨bs, rfl⟩
  · exact ⟨[], by rw [List.append_nil]; rfl⟩
  · exact ⟨bs, rfl⟩

/-- DECODE writes the result registers where it ends with RXVALID 1 and ERR None (rule R28); else it leaves them. -/
theorem execDecode_frame {s t : State} (h : execDecode s = .next t) :
    t = { s with
      err := t.err, encst := t.encst, decst := t.decst, rxvalid := t.rxvalid, rxb := t.rxb, rxusz := t.rxusz
      csacc := t.csacc, wr := t.wr, rd := t.rd, freeCtr := t.freeCtr
      rxadr := t.rxadr, rxcmd := t.rxcmd, rxplen := t.rxplen } ∧
    ((t.rxadr = s.rxadr ∧ t.rxcmd = s.rxcmd ∧ t.rxplen = s.rxplen) ∨ (t.err = .none ∧ t.rxvalid = true)) := by
  rcases execDecode_cases h with ⟨-, rfl⟩ | ⟨-, u, hu, ⟨e, -, rfl⟩ | ⟨a, c, n, rfl⟩⟩
  · exact ⟨rfl, .inl ⟨rfl, rfl, rfl⟩⟩
  · rw [hu]
    exact ⟨rfl, .inl ⟨rfl, rfl, rfl⟩⟩
  · rw [hu]
    exact ⟨rfl, .inr ⟨rfl, rfl⟩⟩

/-- Outside the scan a wire symbol is emitted by a running encoder, or gathered (rules R152, R205). -/
theorem wireOutsideScan_frame {bs : List Byte} {s t : State} (h : wireOutsideScan bs s = .next t) :
    t = { s with
      txw := t.txw, txwlen := t.txwlen, rxb := t.rxb, rxlen := t.rxlen, dcnt := t.dcnt, rxarmed := t.rxarmed
      rxdone := t.rxdone, rxovf := t.rxovf } := by
  unfold wireOutsideScan at h
  split at h
  · rw [collectAll_frame h]
  · rw [emitAll_frame h]

/-- Everything a wire symbol can do: a stray delimiter in the scan, a logical byte in the scan, or what its bytes do outside
it (rules R101, R104, R152, R205). -/
theorem exec_wire_cases {i : Instr} {s t : State} (hi : i.isWire = true) (h : exec i s = .next t) :
    t = raiseDecode .frameError s ∨
    (∃ (raw : Byte) (rd : Word), scanPut raw { s with rd := rd } = .next t) ∨
    ∃ bs : List Byte, wireOutsideScan bs s = .next t := by
  have pair {code raw : Byte} (h : wirePair code raw s = .next t) :
      (∃ (raw : Byte) (rd : Word), scanPut raw { s with rd := rd } = .next t) ∨
      ∃ bs : List Byte, wireOutsideScan bs s = .next t := by
    unfold wirePair at h
    split at h
    · exact .inl ⟨raw, _, h⟩
    · exact .inr ⟨_, h⟩
  cases i with
  | delim =>
    rw [exec, execDelim] at h
    split at h
    · cases h
      exact .inl rfl
    · exact .inr (.inr ⟨_, h⟩)
  | esc11 | esc13 | esc7d | esc7e => exact .inr (pair h)
  | lit b =>
    rw [exec, execLit] at h
    split at h
    · exact .inr (.inl ⟨b, s.rd, h⟩)
    · exact .inr (.inr ⟨_, h⟩)
  | _ => cases hi

theorem exec_wire_frame {i : Instr} {s t : State} (hi : i.isWire = true) (h : exec i s = .next t) :
    t = { s with
      txw := t.txw, txwlen := t.txwlen, rxb := t.rxb, rxlen := t.rxlen, dcnt := t.dcnt, rxarmed := t.rxarmed
      rxdone := t.rxdone, rxovf := t.rxovf, err := t.err, encst := t.encst, decst := t.decst, freeCtr := t.freeCtr
      wr := t.wr, rd := t.rd } := by
  rcases exec_wire_cases hi h with rfl | ⟨raw, rd, h⟩ | ⟨bs, h⟩
  · rfl
  · obtain ⟨-, rfl⟩ := scanPut_eq_next.1 h
    rfl
  · rw [wireOutsideScan_frame h]

theorem execRxstop_frame {s t : State} (h : execRxstop s = .next t) :
    t = { s with rxarmed := t.rxarmed, rxdone := t.rxdone, err := .none } := by
  cases h
  split <;> rfl

/-- A host access that starts no operation (rules R60 to R67). -/
theorem hostAccess_frame {a : Access} {s t : State} (ha : a.isCommandWrite = false) (h : hostAccess a s = .next t) :
    t = { s with
      txadr := t.txadr, txcmd := t.txcmd, txlen := t.txlen, txpay := t.txpay, rxlen := t.rxlen, rxb := t.rxb
      rxvalid := t.rxvalid, portLog := t.portLog } := by
  cases a with
  | regRead n =>
    obtain ⟨v, -, rfl⟩ := hostRegRead_eq_next h
    rfl
  | regWrite n v =>
    rcases hostRegWrite_cases h with ⟨w, rfl, -, -⟩ | ⟨a, c, l, rfl⟩ | ⟨-, w, rfl⟩
    · cases ha
    · rfl
    · rfl
  | bufRead sp i =>
    obtain ⟨b, -, rfl⟩ := hostBufRead_eq_next h
    rfl
  | bufWrite sp i v =>
    rcases hostBufWrite_cases h with rfl | ⟨-, rfl⟩ | ⟨-, -, rfl⟩ <;> rfl

/-- What every instruction can touch: all for RESET; what ENCODE, DECODE, the channel's writes and the accumulator's commands
write; else ERR and the codec's and the collector's own state, the built frame only where an encoder runs. -/
theorem exec_cases {i : Instr} {s t : State} (h : exec i s = .next t) :
    (i = .reset ∧ t = resetBlock s) ∨
    (i = .encode ∧ t = { s with
      txw := t.txw, txwlen := t.txwlen, csacc := t.csacc, pi := t.pi, txrdy := true, err := .none, encst := .idle }) ∨
    (i = .decode ∧
      t = { s with
        err := t.err, encst := t.encst, decst := t.decst, rxvalid := t.rxvalid, rxb := t.rxb, rxusz := t.rxusz
        csacc := t.csacc, wr := t.wr, rd := t.rd, freeCtr := t.freeCtr
        rxadr := t.rxadr, rxcmd := t.rxcmd, rxplen := t.rxplen } ∧
      ((t.rxadr = s.rxadr ∧ t.rxcmd = s.rxcmd ∧ t.rxplen = s.rxplen) ∨ (t.err = .none ∧ t.rxvalid = true))) ∨
    ((i = .txsend ∨ i = .prime) ∧ ∃ bs : List Byte, t = { s with
      txs := s.txs ++ bs, err := t.err, encst := t.encst, decst := t.decst, answers := t.answers, draws := t.draws }) ∨
    ((i = .csclr ∨ ∃ imm, i = .csadd imm) ∧ t = { s with csacc := t.csacc, err := .none }) ∨
    (t = { s with
        txw := t.txw, txwlen := t.txwlen, rxb := t.rxb, rxlen := t.rxlen, dcnt := t.dcnt, rxarmed := t.rxarmed
        rxdone := t.rxdone, rxovf := t.rxovf, rxvalid := t.rxvalid, err := t.err, encst := t.encst, decst := t.decst
        freeCtr := t.freeCtr, wr := t.wr, rd := t.rd } ∧
      (CodecIdle s → t.txw = s.txw ∧ t.txwlen = s.txwlen)) := by
  cases i with
  | reset => cases h; exact .inl ⟨rfl, rfl⟩
  | encode => exact .inr (.inl ⟨rfl, execEncode_frame h⟩)
  | decode => exact .inr (.inr (.inl ⟨rfl, execDecode_frame h⟩))
  | txsend => exact .inr (.inr (.inr (.inl ⟨.inl rfl, execTxsend_frame h⟩)))
  | prime => cases h; exact .inr (.inr (.inr (.inl ⟨.inr rfl, _, rfl⟩)))
  | csclr => cases h; exact .inr (.inr (.inr (.inr (.inl ⟨.inl rfl, rfl⟩))))
  | csadd imm => cases h; exact .inr (.inr (.inr (.inr (.inl ⟨.inr ⟨imm, rfl⟩, rfl⟩))))
  | nop | rxarm | reserved op => cases h; exact .inr (.inr (.inr (.inr (.inr ⟨rfl, fun _ => ⟨rfl, rfl⟩⟩))))
  | rxstop =>
    rw [execRxstop_frame h]
    exact .inr (.inr (.inr (.inr (.inr ⟨rfl, fun _ => ⟨rfl, rfl⟩⟩))))
  | rxbyte b =>
    rw [collect_frame h]
    exact .inr (.inr (.inr (.inr (.inr ⟨rfl, fun _ => ⟨rfl, rfl⟩⟩))))
  | delim | esc11 | esc13 | esc7d | esc7e | lit b =>
    refine .inr (.inr (.inr (.inr (.inr ⟨?_, fun hidle => ?_⟩))))
    · rw [exec_wire_frame rfl h]
    · rw [exec_wire_of_codecIdle rfl hidle] at h
      rw [collectAll_frame h]
      exact ⟨rfl, rfl⟩

/-- Settles O47: the operations it does not name do not write CSACC. -/
theorem onlyTheEngineWritesCsacc : Obligations.OnlyTheEngineWritesCsacc := by
  refine ⟨fun i s t h hcsclr hcsadd hencode hdecode hreset => ?_, fun a s t ha h => by rw [hostAccess_frame ha h]⟩
  rcases exec_cases h with ⟨hi, -⟩ | ⟨hi, -⟩ | ⟨hi, -, -⟩ | ⟨-, bs, ht⟩ | ⟨hi | ⟨imm, hi⟩, -⟩ | ⟨ht, -⟩
  · exact absurd hi hreset
  · exact absurd hi hencode
  · exact absurd hi hdecode
  · rw [ht]
  · exact absurd hi hcsclr
  · exact absurd hi (hcsadd imm)
  · rw [ht]

/-- Settles O48: TXSEND and PRIME append, RESET keeps TXS, and nothing else touches it. -/
theorem txsOnlyGrows : Obligations.TxsOnlyGrows := by
  intro i s t h
  have kept (ht : t.txs = s.txs) :
      (∃ bs : List Byte, t.txs = s.txs ++ bs) ∧ (i ≠ .txsend → i ≠ .prime → t.txs = s.txs) :=
    ⟨⟨[], by rw [ht, List.append_nil]⟩, fun _ _ => ht⟩
  rcases exec_cases h with ⟨-, ht⟩ | ⟨-, ht⟩ | ⟨-, ht, -⟩ | ⟨hi, bs, ht⟩ | ⟨-, ht⟩ | ⟨ht, -⟩
  · exact kept (by rw [ht, resetBlock_txs])
  · exact kept (by rw [ht])
  · exact kept (by rw [ht])
  · exact ⟨⟨bs, by rw [ht]⟩, fun htxsend hprime => absurd hi (not_or.2 ⟨htxsend, hprime⟩)⟩
  · exact kept (by rw [ht])
  · exact kept (by rw [ht])

/-- Settles O49: only RESET touches the operands; the built frame changes in ENCODE, and under a wire symbol while an encoder
runs. -/
theorem operationsKeepTheTransmitOperands : Obligations.OperationsKeepTheTransmitOperands := by
  constructor
  · intro i s t h hreset
    rcases exec_cases h with ⟨hi, -⟩ | ⟨-, ht⟩ | ⟨-, ht, -⟩ | ⟨-, bs, ht⟩ | ⟨-, ht⟩ | ⟨ht, -⟩
    · exact absurd hi hreset
    all_goals
      rw [ht]
      exact ⟨rfl, rfl, rfl, rfl⟩
  · intro i s t hidle h hreset hencode
    rcases exec_cases h with ⟨hi, -⟩ | ⟨hi, -⟩ | ⟨-, ht, -⟩ | ⟨-, bs, ht⟩ | ⟨-, ht⟩ | ⟨ht, hframe⟩
    · exact absurd hi hreset
    · exact absurd hi hencode
    · rw [ht]; exact ⟨rfl, rfl, rfl⟩
    · rw [ht]; exact ⟨rfl, rfl, rfl⟩
    · rw [ht]; exact ⟨rfl, rfl, rfl⟩
    · obtain ⟨htxw, htxwlen⟩ := hframe hidle
      exact ⟨htxwlen, htxw, by rw [ht]⟩

/-- Settles O50: of the operations other than RESET, DECODE alone writes them, at its end. -/
theorem resultRegistersOnlyOnSuccess : Obligations.ResultRegistersOnlyOnSuccess := by
  intro i s t h hreset
  rcases exec_cases h with ⟨hi, -⟩ | ⟨-, ht⟩ | ⟨hi, -, hresults⟩ | ⟨-, bs, ht⟩ | ⟨-, ht⟩ | ⟨ht, -⟩
  · exact absurd hi hreset
  · rw [ht]; exact .inl ⟨rfl, rfl, rfl⟩
  · exact hresults.imp_right fun hsuccess => ⟨hi, hsuccess⟩
  · rw [ht]; exact .inl ⟨rfl, rfl, rfl⟩
  · rw [ht]; exact .inl ⟨rfl, rfl, rfl⟩
  · rw [ht]; exact .inl ⟨rfl, rfl, rfl⟩

end Sys2Proof.Machine
end

section
/-! ## ERR is overwritten

ENCODE, DECODE and the other commands but NOP do the same whatever ERR held: each ends by writing it (rules R23, R260). -/

namespace Sys2Proof.Machine

theorem andThen_fetchByte (sp : Space) (i : Nat) (s : State) (k : Byte → Res) (l : State → Res) :
    andThen (fetchByte sp i s k) l = fetchByte sp i s fun b => andThen (k b) l := by
  unfold fetchByte
  split
  · split <;> rfl
  · rfl

/-- A fetch does not depend on ERR, if what follows does not. -/
theorem fetchByte_ignores_err {sp : Space} {i : Nat} {s : State} {e : ErrorKind} {k l : Byte → Res} (h : ∀ b, k b = l b) :
    fetchByte sp i { s with err := e } k = fetchByte sp i s l := by
  rw [funext h]
  cases sp <;> rfl

theorem scanPut_andThen_ignores_err {raw : Byte} {s : State} {e : ErrorKind} {k : State → Res} (hs : s.decst = .scan)
    (hk : ∀ t : State, t.decst = .scan → k { t with err := e } = k t) :
    andThen (scanPut raw { s with err := e }) k = andThen (scanPut raw s) k := by
  by_cases hw : s.wr.toNat < 522
  · rw [scanPut_of_lt (s := { s with err := e }) hw, scanPut_of_lt hw]
    exact hk { s with rxb := _, wr := s.wr + 1, rd := s.rd + 1 } hs
  · simp [scanPut, storeByte, Space.size, Config.rxCap, hw]

/-- A scanning step overwrites ERR or leaves the scan running. -/
theorem scanSymbol_andThen_ignores_err {s : State} {e : ErrorKind} {k : State → Res} (hs : s.decst = .scan)
    (hk : ∀ t : State, t.decst = .scan → k { t with err := e } = k t) :
    andThen (scanSymbol { s with err := e }) k = andThen (scanSymbol s) k := by
  rw [scanSymbol, scanSymbol, andThen_fetchByte, andThen_fetchByte]
  refine fetchByte_ignores_err fun b => ?_
  split
  · rfl
  split
  · rw [scanFollower, scanFollower, andThen_fetchByte, andThen_fetchByte]
    refine fetchByte_ignores_err (s := { s with rd := s.rd + 1 }) fun f => ?_
    split
    · rfl
    · exact scanPut_andThen_ignores_err (s := { s with rd := s.rd + 1 }) hs hk
  · exact scanPut_andThen_ignores_err hs hk

theorem sumLoop_ignores_err (k : Nat) (s : State) (e : ErrorKind) : sumLoop k { s with err := e } = sumLoop k s := by
  induction k generalizing s with
  | zero => rfl
  | succ k ih => exact fetchByte_ignores_err fun b => ih { accumulate b s with rd := s.rd + 1 }

theorem decodeLength_ignores_err (s : State) (e : ErrorKind) : decodeLength { s with err := e } = decodeLength s := by
  refine fetchByte_ignores_err (s := { s with rxusz := s.wr }) fun l => ?_
  split
  · exact sumLoop_ignores_err (s.wr.toNat - 1) { s with rxusz := s.wr, rd := 0 } e
  · rfl

theorem scanLoop_ignores_err (fuel : Nat) {s : State} (hs : s.decst = .scan) (e : ErrorKind) :
    scanLoop fuel { s with err := e } = scanLoop fuel s := by
  induction fuel generalizing s with
  | zero => exact decodeLength_ignores_err s e
  | succ fuel ih =>
    rw [scanLoop, scanLoop]
    split
    · refine scanSymbol_andThen_ignores_err hs fun t ht => ?_
      rw [if_pos ht, if_pos ht]
      exact ih ht
    · exact decodeLength_ignores_err s e

theorem decodeHeader_ignores_err {s : State} {e : ErrorKind} {k : State → Res} (hk : k { s with err := e } = k s) :
    decodeHeader { s with err := e } k = decodeHeader s k := by
  rw [decodeHeader, decodeHeader]
  split
  · rfl
  refine fetchByte_ignores_err fun first => ?_
  split
  · rfl
  refine fetchByte_ignores_err fun last => ?_
  split
  · rfl
  · exact hk

theorem execDecode_ignores_err (s : State) (e : ErrorKind) : execDecode { s with err := e } = execDecode s := by
  rw [execDecode, execDecode]
  split
  · next hrefused => exact (if_pos hrefused).symm
  · next hrefused =>
    refine Eq.trans ?_ (if_neg hrefused).symm
    exact decodeHeader_ignores_err (s := decodeStart s)
      (scanLoop_ignores_err _ (s := { decodeStart s with rd := 1, wr := 0, decst := .scan }) rfl e)

theorem execEncode_ignores_err (s : State) (e : ErrorKind) : execEncode { s with err := e } = execEncode s := by
  rw [execEncode_eq, execEncode_eq]
  rfl

theorem execRxstop_ignores_err (s : State) (e : ErrorKind) : execRxstop { s with err := e } = execRxstop s := by
  cases harmed : s.rxarmed <;> simp [execRxstop, harmed, succeed, flagsClose]

/-- Settles O46: each command ends by writing ERR, and nothing before that reads it. -/
theorem everyCommandOverwritesErr : Obligations.EveryCommandOverwritesErr := by
  refine ⟨fun i s e hcmd hnop => ?_, fun b s t h => ?_, fun s t h => ?_, fun a s t ha h => ?_, fun e => ?_⟩
  · cases i with
    | nop => exact absurd rfl hnop
    | encode => exact execEncode_ignores_err s e
    | decode => exact execDecode_ignores_err s e
    | rxstop => exact execRxstop_ignores_err s e
    | txsend | rxarm | prime | csclr | csadd imm | reset | reserved op => rfl
    | rxbyte b | delim | esc11 | esc13 | esc7d | esc7e | lit b => cases hcmd
  · rw [collect_frame h]
  · cases h
    rfl
  · rw [hostAccess_frame ha h]
  · cases e <;> decide

end Sys2Proof.Machine
end

section
/-! ## Register reads -/

namespace Sys2Proof.Machine

/-- Each register up to 13 has a value of its own width (rules R20, R61). -/
theorem exists_regValue {n : Nat} (hn : n ≤ 13) (s : State) :
    ∃ v, regValue n s = some v ∧ widthFits n v = true := by
  interval_cases n <;> exact ⟨_, rfl, rfl⟩

theorem hostRegRead_of_regValue {n : Nat} {s : State} {v : PortValue} (h : regValue n s = some v) :
    hostRegRead n s = .next (answer v s) := by
  rw [hostRegRead, h]

theorem regValue_of_lt {n : Nat} (hn : 13 < n) (s : State) : regValue n s = none := by
  obtain ⟨k, rfl⟩ := Nat.exists_eq_add_of_le' hn
  rfl

/-- The bits of STATUS (rule R22). -/
theorem statusReg_bits (s : State) :
    (statusReg s).getLsbD 0 = s.txrdy ∧ (statusReg s).getLsbD 1 = s.rxarmed ∧ (statusReg s).getLsbD 2 = s.rxdone ∧
    (statusReg s).getLsbD 3 = s.rxovf ∧ (statusReg s).getLsbD 4 = s.rxvalid ∧ (statusReg s).getLsbD 5 = false ∧
    (statusReg s).getLsbD 6 = false ∧ (statusReg s).getLsbD 7 = false := by
  simp only [statusReg, BitVec.getLsbD_append, BitVec.getLsbD_ofBool]
  simp

/-- Settles O52: the registers one by one, STATUS bit by bit. -/
theorem regReadReturnsAndChangesNothing : Obligations.RegReadReturnsAndChangesNothing := by
  refine ⟨fun n s hn => ?_, fun n s hn => ?_, fun s => ?_, fun s => ⟨statusReg s, rfl, statusReg_bits s⟩, ?_⟩
  · obtain ⟨v, hv, hwidth⟩ := exists_regValue hn s
    exact ⟨v, hv, hwidth, hostRegRead_of_regValue hv⟩
  · rw [hostAccess, hostRegRead, regValue_of_lt hn]
  · exact ⟨rfl, rfl, rfl, rfl, rfl, rfl, rfl, rfl, rfl, rfl, rfl, rfl, rfl⟩
  · decide

end Sys2Proof.Machine
end

section
/-! ## Register writes (rules R62, R65 to R67) -/

namespace Sys2Proof.Machine

theorem hostRegWrite_of_lt {n : Nat} (hn : 13 < n) (v : PortValue) (s : State) :
    hostRegWrite n v s = .refused .noSuchRegister :=
  if_pos hn

/-- Where no register takes the value, its width alone decides whether the write is dropped or refused. -/
theorem hostRegWrite_of_not_writable {n : Nat} {v : PortValue} (hn : n ≤ 13)
    (h : n ∈ [0, 3, 4, 5, 7] → widthFits n v = false) (s : State) :
    hostRegWrite n v s = if widthFits n v then .next s else .refused .widthMismatch := by
  unfold hostRegWrite
  rw [if_neg (Nat.not_lt.2 hn)]
  split
  -- the five registers that take a value of their width
  iterate 5 · cases h (by decide)
  · rfl

theorem writeRxlen_of_unarmed {s : State} (h : s.rxarmed = false) (w : Word) :
    writeRxlen w s = .next { s with rxlen := w, rxvalid := false } :=
  if_neg (Bool.eq_false_iff.1 h)

theorem writeRxlen_of_armed {s : State} (h : s.rxarmed = true) (w : Word) :
    writeRxlen w s = .refused .armedWrite :=
  if_pos h

/-- Settles O53: the five writable registers one by one, and the two ways a value is not taken. -/
theorem regWriteEffects : Obligations.RegWriteEffects := by
  refine ⟨fun v s => rfl, fun v s => rfl, fun v s => rfl, fun v s h => writeRxlen_of_unarmed h v,
    fun v s h => writeRxlen_of_armed h v, fun w s => rfl, fun n v s hn hwidth => ?_, fun n v s hn hwidth => ?_,
    fun n v s hn => hostRegWrite_of_lt hn v s⟩
  · have hreadOnly : ∀ m ∈ [1, 2, 6, 8, 9, 10, 11, 12, 13], m ≤ 13 ∧ m ∉ [0, 3, 4, 5, 7] := by decide
    obtain ⟨hle, hnot⟩ := hreadOnly n hn
    exact (hostRegWrite_of_not_writable hle (fun h => absurd h hnot) s).trans (if_pos hwidth)
  · exact (hostRegWrite_of_not_writable hn (fun _ => hwidth) s).trans (if_neg (Bool.eq_false_iff.1 hwidth))

end Sys2Proof.Machine
end

section
/-! ## Buffer accesses (rules R46, R63 to R67) -/

namespace Sys2Proof.Machine

theorem hostBufRead_of_read {sp : Space} {i : Nat} {b : Byte} {s : State} (hi : i < sp.size)
    (hb : Memory.read (s.mem sp) i = some b) : hostBufRead sp i s = .next (answer (.byte b) s) := by
  rw [hostBufRead, if_pos hi, hb]

theorem hostBufRead_of_unwritten {sp : Space} {i : Nat} {s : State} (hi : i < sp.size)
    (hb : Memory.read (s.mem sp) i = none) : hostBufRead sp i s = .fault .unwrittenByte := by
  rw [hostBufRead, if_pos hi, hb]

theorem hostBufWrite_txpay {i : Nat} (hi : i < Space.txpay.size) (v : Byte) (s : State) :
    hostBufWrite .txpay i v s = .next { s with txpay := Memory.write s.txpay i v } :=
  if_pos hi

theorem hostBufWrite_txw {i : Nat} (hi : i < Space.txw.size) (v : Byte) (s : State) :
    hostBufWrite .txw i v s = .next s :=
  if_pos hi

theorem hostBufWrite_rxb_of_unarmed {i : Nat} {s : State} (hi : i < Space.rxb.size) (h : s.rxarmed = false) (v : Byte) :
    hostBufWrite .rxb i v s = .next { s with rxb := Memory.write s.rxb i v, rxvalid := false } :=
  (if_pos hi).trans (if_neg (Bool.eq_false_iff.1 h))

theorem hostBufWrite_rxb_of_armed {i : Nat} {s : State} (hi : i < Space.rxb.size) (h : s.rxarmed = true) (v : Byte) :
    hostBufWrite .rxb i v s = .refused .armedWrite :=
  (if_pos hi).trans (if_pos h)

/-- Settles O54: each space's access in bounds, and the index outside. -/
theorem bufferAccessEffects : Obligations.BufferAccessEffects := by
  refine ⟨fun sp i b s => hostBufRead_of_read, fun sp i s => hostBufRead_of_unwritten, fun i v s hi => ?_,
    fun i v s hi => hostBufWrite_txw hi v s, fun i v s hi harmed => ?_,
    fun i v s hi harmed => hostBufWrite_rxb_of_armed hi harmed v, fun sp i v s hi => ?_⟩
  · exact ⟨_, hostBufWrite_txpay hi v s, rfl, fun j => Memory.read_write s.txpay i j v⟩
  · exact ⟨_, hostBufWrite_rxb_of_unarmed hi harmed v, rfl, fun j => Memory.read_write s.rxb i j v⟩
  · have hout : ¬ i < sp.size := Nat.not_lt.2 hi
    exact ⟨if_neg hout, if_neg hout⟩

end Sys2Proof.Machine
end

section
/-! ## ENCODE run again (rules R71, R150) -/

namespace Sys2Proof.Machine

/-- Writing a range that is already there changes nothing, in the canonical form. -/
theorem Memory.writeRange_readRange {m : Memory} (hm : Memory.wf m) {i : Nat} {bs : List Byte}
    (h : Memory.readRange m i bs.length = some bs) : Memory.writeRange m i bs = m := by
  induction bs generalizing i with
  | nil => rfl
  | cons b bs ih =>
    rw [List.length_cons, Memory.readRange_succ] at h
    obtain ⟨c, hc, hrest⟩ := Option.bind_eq_some_iff.1 h
    obtain ⟨l, hl, hcons⟩ := Option.map_eq_some_iff.1 hrest
    cases hcons
    rw [Memory.writeRange, Memory.write_read hm hc, ih hl]

theorem Memory.writeRange_twice {m : Memory} (hm : Memory.wf m) (i : Nat) (bs : List Byte) :
    Memory.writeRange (Memory.writeRange m i bs) i bs = Memory.writeRange m i bs :=
  Memory.writeRange_readRange (Memory.wf_writeRange hm i) (Memory.readRange_writeRange m i bs)

/-- The state ENCODE leaves with the payload `p` (rule R150). -/
def encodeResult (p : List Byte) (s : State) : State :=
  encodeEnd { s with
    txw := Memory.writeRange s.txw 0 (stuff s.txadr s.txcmd p)
    txwlen := BitVec.ofNat 16 (stuff s.txadr s.txcmd p).length
    csacc := sumBytes (logicalFields s.txadr s.txcmd p)
    pi := s.txlen }

theorem exec_encode_of_written {s : State} {p : List Byte} (h : Memory.readRange s.txpay 0 s.txlen.toNat = some p) :
    exec .encode s = .next (encodeResult p s) := by
  rw [exec, execEncode_eq, h]
  rfl

/-- Of the fields it sets, only TXW depends on what stood there before, and there the same frame is written over itself. -/
theorem encodeResult_twice {s : State} (hm : Memory.wf s.txw) (p : List Byte) :
    encodeResult p (encodeResult p s) = encodeResult p s := by
  have htxw := Memory.writeRange_twice hm 0 (stuff s.txadr s.txcmd p)
  exact congrArg (fun m => { encodeResult p s with txw := m }) htxw

/-- Settles O21: ENCODE leaves its operands alone, so the second run writes the same frame again. -/
theorem encodeIsIdempotent : Obligations.EncodeIsIdempotent := by
  intro s p hm hp
  refine ⟨encodeResult p s, exec_encode_of_written hp, ?_⟩
  rw [exec_encode_of_written (s := encodeResult p s) hp, encodeResult_twice hm]

end Sys2Proof.Machine
end

section
/-! ## Decode of encode

The two halves of a command word, the bytes of a wire symbol whatever follows them, and a sequence of symbols (rules R92,
R103, R110, R115). -/

namespace Sys2Proof

@[simp] theorem opcodeOf_cmdWord (imm op : Byte) : opcodeOf (cmdWord imm op) = op :=
  BitVec.extractLsb'_append_eq_right

@[simp] theorem immOf_cmdWord (imm op : Byte) : immOf (cmdWord imm op) = imm :=
  BitVec.extractLsb'_append_eq_left

theorem decodeCmd_of_reserved {w : Word} (h : 0x0A ≤ (opcodeOf w).toNat) : decodeCmd w = .reserved (opcodeOf w) := by
  unfold decodeCmd
  split
  -- the ten opcodes that are commands
  iterate 10 · omega
  · rfl

theorem decodeCmd_csadd (imm : Byte) : decodeCmd (cmdWord imm 0x08#8) = .csadd imm := by
  simp [decodeCmd]

theorem decodeWire_literal {b : Byte} (hdelim : b ≠ Config.delim) (hesc : b ≠ Config.esc) (tail : List Byte) :
    decodeWire (b :: tail) = .ok (.lit b, tail) :=
  (if_neg hdelim).trans (if_neg hesc)

/-- The first byte of a symbol's bytes alone tells where they end (rule R103). -/
theorem decodeWire_wireBytes_append {i : Instr} (hi : WellFormed i) (hwire : i.isWire = true) (rest : List Byte) :
    decodeWire (wireBytes i ++ rest) = .ok (i, rest) := by
  cases i with
  | lit b =>
    obtain ⟨hesc, hdelim⟩ : b ≠ Config.esc ∧ b ≠ Config.delim := of_decide_eq_true hi
    exact decodeWire_literal hdelim hesc rest
  | delim | esc11 | esc13 | esc7d | esc7e => rfl
  | _ => cases hwire

theorem decode_wireBytes {i : Instr} (hi : WellFormed i) (hwire : i.isWire = true) :
    decode (.wire (wireBytes i)) = .ok i := by
  have h := decodeWire_wireBytes_append hi hwire []
  rw [List.append_nil] at h
  rw [decode, h]

theorem decode_encode {i : Instr} (hi : WellFormed i) : decode (encode i) = .ok i := by
  cases i with
  | csadd imm => exact congrArg Except.ok (decodeCmd_csadd imm)
  | reserved op =>
    have hop : 0x0A ≤ (opcodeOf (cmdWord 0x00#8 op)).toNat := by
      rw [opcodeOf_cmdWord]
      exact of_decide_eq_true hi
    exact congrArg Except.ok ((decodeCmd_of_reserved hop).trans (congrArg Instr.reserved (opcodeOf_cmdWord _ _)))
  | delim | esc11 | esc13 | esc7d | esc7e | lit b => exact decode_wireBytes hi rfl
  | nop | encode | decode | txsend | rxarm | rxstop | prime | csclr | reset | rxbyte b => rfl

theorem decodeStream_succ {n : Nat} {bs rest : List Byte} {i : Instr} {is : List Instr}
    (hfirst : decodeWire bs = .ok (i, rest)) (hrest : decodeStream n rest = .ok is) :
    decodeStream (n + 1) bs = .ok (i :: is) := by
  cases bs with
  | nil => cases hfirst
  | cons b bs => simp only [decodeStream, hfirst, hrest]

theorem decodeStream_flatMap_wireBytes {is : List Instr} (h : ∀ i ∈ is, WellFormed i ∧ i.isWire = true) :
    decodeStream is.length (is.flatMap wireBytes) = .ok is := by
  induction is with
  | nil => rfl
  | cons i is ih =>
    obtain ⟨⟨hi, hwire⟩, his⟩ := List.forall_mem_cons.1 h
    exact decodeStream_succ (decodeWire_wireBytes_append hi hwire _) (ih his)

/-- Settles O7: instruction by instruction, and by induction on the symbols of the sequence. -/
theorem decodeInvertsEncode : Obligations.DecodeInvertsEncode :=
  ⟨fun _ => decode_encode, fun _ => decodeStream_flatMap_wireBytes⟩

end Sys2Proof
end

section
/-! ## Words, immediates and reserved opcodes (rules R95 to R101, R110 to R113) -/

namespace Sys2Proof

/-- Settles O6: each word and each byte sequence decoded by computation. -/
theorem specWordsDecode : Obligations.SpecWordsDecode :=
  ⟨rfl, rfl, rfl, rfl, rfl, rfl, rfl, rfl, rfl⟩

/-- imm8 selects nothing, and CSADD alone carries it (rule R112). -/
theorem decodeCmd_congr {w v : Word} (hop : opcodeOf w = opcodeOf v) (hcsadd : opcodeOf w ≠ 0x08#8) :
    decodeCmd w = decodeCmd v := by
  have hne : (opcodeOf v).toNat ≠ 8 := fun h => hcsadd (hop.trans (BitVec.eq_of_toNat_eq h))
  unfold decodeCmd
  rw [hop]
  split
  -- CSADD's arm, the one that reads the immediate
  case h_9 h => exact absurd h hne
  all_goals rfl

/-- Settles O8: the write of CMD runs what its word decodes to. -/
theorem onlyCsaddReadsTheImmediate : Obligations.OnlyCsaddReadsTheImmediate := by
  intro w v s hop hcsadd
  have hdecode := decodeCmd_congr hop hcsadd
  exact ⟨hdecode, congrArg (Machine.exec · s) hdecode⟩

theorem esc_of_ne {b : Byte} (h11 : b ≠ 0x11#8) (h13 : b ≠ 0x13#8) (h7d : b ≠ 0x7D#8) (h7e : b ≠ 0x7E#8) :
    esc b = [b] := by
  rw [esc, if_neg h11, if_neg h13, if_neg h7d, if_neg h7e]

theorem unesc_of_ne {f : Byte} (h31 : f ≠ 0x31#8) (h33 : f ≠ 0x33#8) (h5d : f ≠ 0x5D#8) (h5e : f ≠ 0x5E#8) :
    unesc f = none := by
  rw [unesc, if_neg h31, if_neg h33, if_neg h5d, if_neg h5e]

/-- Settles O9: the table's entries by computation, every other byte by the tests it fails. -/
theorem escapeTableIsAsSpecified : Obligations.EscapeTableIsAsSpecified :=
  ⟨rfl, rfl, rfl, rfl, fun _ => esc_of_ne, rfl, rfl, rfl, rfl, fun _ => unesc_of_ne⟩

end Sys2Proof

namespace Sys2Proof.Machine

/-- Between operations an error is its code in ERR (rules R40, R270). -/
theorem raise_of_codecIdle {s : State} (h : CodecIdle s) (e : ErrorKind) : raise e s = { s with err := e } := by
  obtain ⟨henc, hdec⟩ := h
  rw [raise, ← henc, ← hdec]

/-- Settles O11: the word selects the reserved row, which takes IllegalOp between operations. -/
theorem reservedOpcodesOnlySetIllegalOp : Obligations.ReservedOpcodesOnlySetIllegalOp := by
  intro w s hop hidle
  have hdecode := decodeCmd_of_reserved hop
  have hexec : exec (.reserved (opcodeOf w)) s = .next { s with err := .illegalOp } :=
    congrArg Host.Outcome.next (raise_of_codecIdle hidle .illegalOp)
  exact ⟨hdecode, (congrArg (exec · s) hdecode).trans hexec, hexec⟩

end Sys2Proof.Machine
end

section
/-! ## A wire symbol as an instruction, place by place

In the scan it is the body symbol at RD, outside it its bytes; a running encoder emits those (rules R96 to R101, R104,
R152, R174 to R176). -/

namespace Sys2Proof.Machine

theorem execDelim_of_scan {s : State} (h : s.decst = .scan) : execDelim s = .next (raiseDecode .frameError s) :=
  if_pos h

theorem execLit_of_scan {s : State} (h : s.decst = .scan) (b : Byte) : execLit b s = scanPut b s :=
  if_pos h

theorem wirePair_of_scan {s : State} (h : s.decst = .scan) (code raw : Byte) :
    wirePair code raw s = scanPut raw { s with rd := s.rd + 1 } :=
  if_pos h

theorem wirePair_of_scan_of_lt {s : State} (h : s.decst = .scan) (hw : s.wr.toNat < 522) (code raw : Byte) :
    wirePair code raw s = .next { s with
      rxb := Memory.write s.rxb s.wr.toNat raw, wr := s.wr + 1, rd := s.rd + 2 } := by
  have hrd : s.rd + 2 = s.rd + 1 + 1 := (BitVec.add_assoc s.rd 1 1).symm
  rw [wirePair_of_scan h, scanPut_of_lt (s := { s with rd := s.rd + 1 }) hw, hrd]

/-- Settles O34: a pair moves RD by two, a literal by one. -/
theorem wireSymbolsInTheScan : Obligations.WireSymbolsInTheScan := by
  intro i raw s hraw hs hw
  cases i with
  | esc11 | esc13 | esc7d | esc7e =>
    cases hraw
    exact wirePair_of_scan_of_lt hs hw _ _
  | lit b =>
    cases hraw
    exact (execLit_of_scan hs _).trans (scanPut_of_lt hw)
  | _ => cases hraw

/-- Settles O35: the error of R176, and the bytes of RXB it leaves unspecified. -/
theorem strayDelimiterInTheScan : Obligations.StrayDelimiterInTheScan := by
  intro s hs
  exact ⟨raiseDecode .frameError s, execDelim_of_scan hs, rfl, read_unspecifyRxb s⟩

theorem exec_wire_of_not_scan {i : Instr} {s : State} (hi : i.isWire = true) (hs : s.decst ≠ .scan) :
    exec i s = wireOutsideScan (wireBytes i) s := by
  cases i with
  | delim | esc11 | esc13 | esc7d | esc7e | lit b => exact if_neg hs
  | _ => cases hi

/-- Settles O37: a running encoder emits the symbol's bytes. -/
theorem wireSymbolsInTheEncoder : Obligations.WireSymbolsInTheEncoder := by
  intro i s hi henc hdec hroom
  have hemit : exec i s = emitAll (wireBytes i) s := (exec_wire_of_not_scan hi hdec).trans (if_neg henc)
  exact ⟨_, hemit.trans (emitAll_of_le hroom), rfl, Memory.read_writeRange (wireBytes i) s.txw s.txwlen.toNat⟩

end Sys2Proof.Machine
end

section
/-! ## The scanning step and the symbol at RD

A delimiter, a literal or a marker; the follower of a marker is a code or none (rules R104, R105). -/

namespace Sys2Proof

/-- The four codes and the bytes they stand for (rule R95). -/
theorem unesc_cases {f raw : Byte} (h : unesc f = some raw) :
    (f = 0x31#8 ∧ raw = 0x11#8) ∨ (f = 0x33#8 ∧ raw = 0x13#8) ∨ (f = 0x5D#8 ∧ raw = 0x7D#8) ∨
      (f = 0x5E#8 ∧ raw = 0x7E#8) := by
  unfold unesc at h
  split_ifs at h with h31 h33 h5d h5e <;> cases h
  · exact .inl ⟨h31, rfl⟩
  · exact .inr (.inl ⟨h33, rfl⟩)
  · exact .inr (.inr (.inl ⟨h5d, rfl⟩))
  · exact .inr (.inr (.inr ⟨h5e, rfl⟩))

/-- A marker and its follower are the symbol of the byte the code stands for, or no symbol (rules R96 to R99, R104). -/
theorem decodeWire_marker (f : Byte) (tail : List Byte) :
    decodeWire (Config.esc :: f :: tail) =
      (unesc f).elim (.error (.badFollower f)) fun raw => .ok (symbolOf raw, tail) := by
  cases hraw : unesc f with
  | some raw => rcases unesc_cases hraw with ⟨rfl, rfl⟩ | ⟨rfl, rfl⟩ | ⟨rfl, rfl⟩ | ⟨rfl, rfl⟩ <;> rfl
  | none =>
    have hne : ∀ code : Byte, unesc code ≠ none → f ≠ code := fun code hcode hf => hcode (hf ▸ hraw)
    have h31 := hne 0x31#8 (by decide)
    have h33 := hne 0x33#8 (by decide)
    have h5d := hne 0x5D#8 (by decide)
    have h5e := hne 0x5E#8 (by decide)
    simp [decodeWire, Config.esc, Config.delim, h31, h33, h5d, h5e]

/-- What the first of two bytes and more can be (rules R103, R105). -/
theorem decodeWire_eq_ok_cases {b f : Byte} {tail rest : List Byte} {i : Instr}
    (h : decodeWire (b :: f :: tail) = .ok (i, rest)) :
    (b = Config.delim ∧ i = .delim) ∨ (b = Config.esc ∧ ∃ raw, unesc f = some raw ∧ i = symbolOf raw) ∨
      (b ≠ Config.delim ∧ b ≠ Config.esc ∧ i = .lit b) := by
  rcases eq_or_ne b Config.delim with rfl | hdelim
  · cases h
    exact .inl ⟨rfl, rfl⟩
  rcases eq_or_ne b Config.esc with rfl | hesc
  · rw [decodeWire_marker] at h
    cases hraw : unesc f with
    | none =>
      rw [hraw] at h
      cases h
    | some raw =>
      rw [hraw] at h
      cases h
      exact .inr (.inl ⟨rfl, raw, rfl, rfl⟩)
  · rw [decodeWire_literal hdelim hesc] at h
    cases h
    exact .inr (.inr ⟨hdelim, hesc, rfl⟩)

/-- Two bytes begin with no symbol only if they are a marker and no code (rule R104). -/
theorem decodeWire_eq_error_cases {b f : Byte} {tail : List Byte} {e : DecodeError}
    (h : decodeWire (b :: f :: tail) = .error e) : b = Config.esc ∧ unesc f = none := by
  rcases eq_or_ne b Config.delim with rfl | hdelim
  · cases h
  rcases eq_or_ne b Config.esc with rfl | hesc
  · rw [decodeWire_marker] at h
    cases hraw : unesc f with
    | none => exact ⟨rfl, rfl⟩
    | some raw =>
      rw [hraw] at h
      cases h
  · rw [decodeWire_literal hdelim hesc] at h
    cases h

end Sys2Proof

namespace Sys2Proof.Machine

theorem exec_symbolOf_of_unesc {f raw : Byte} {s : State} (h : unesc f = some raw) (hs : s.decst = .scan) :
    exec (symbolOf raw) s = scanPut raw { s with rd := s.rd + 1 } := by
  rcases unesc_cases h with ⟨-, rfl⟩ | ⟨-, rfl⟩ | ⟨-, rfl⟩ | ⟨-, rfl⟩ <;> exact wirePair_of_scan hs _ _

theorem scanSymbol_of_delim {s : State} (hlt : s.rd.toNat < 522)
    (hb : Memory.read s.rxb s.rd.toNat = some Config.delim) : scanSymbol s = .next (raiseDecode .frameError s) :=
  (fetchByte_of_read (sp := .rxb) _ hlt hb).trans (if_pos rfl)

theorem scanSymbol_of_marker {s : State} (hlt : s.rd.toNat < 522)
    (hb : Memory.read s.rxb s.rd.toNat = some Config.esc) : scanSymbol s = scanFollower { s with rd := s.rd + 1 } :=
  (fetchByte_of_read (sp := .rxb) _ hlt hb).trans rfl

theorem scanSymbol_of_literal {s : State} {b : Byte} (hlt : s.rd.toNat < 522)
    (hb : Memory.read s.rxb s.rd.toNat = some b) (hdelim : b ≠ Config.delim) (hesc : b ≠ Config.esc) :
    scanSymbol s = scanPut b s :=
  (fetchByte_of_read (sp := .rxb) _ hlt hb).trans ((if_neg hdelim).trans (if_neg hesc))

theorem scanFollower_of_read {s : State} {f : Byte} (hlt : s.rd.toNat < 522)
    (hf : Memory.read s.rxb s.rd.toNat = some f) :
    scanFollower s = (unesc f).elim (.next (raiseDecode .unknownEscapeCode s)) fun raw => scanPut raw s := by
  rw [scanFollower, fetchByte_of_read (sp := .rxb) (s := s) _ hlt hf]
  cases unesc f <;> rfl

/-- Settles O36: the step's tests on the byte at RD are the decoder's, and so are the follower's. -/
theorem scanRunsTheDecodedSymbol : Obligations.ScanRunsTheDecodedSymbol := by
  intro s b f hs hroom hlen hb hf
  have hlt : s.rd.toNat < 522 := by omega
  have hfollower : scanFollower { s with rd := s.rd + 1 } =
      (unesc f).elim (.next (raiseDecode .unknownEscapeCode { s with rd := s.rd + 1 }))
        fun raw => scanPut raw { s with rd := s.rd + 1 } := by
    have hnext : (s.rd + 1).toNat = s.rd.toNat + 1 := by bv_omega
    exact scanFollower_of_read (s := { s with rd := s.rd + 1 }) (by simp only [hnext]; omega) (by simp only [hnext, hf])
  refine ⟨fun i rest hdecode => ?_, fun e hdecode => ?_⟩
  · rcases decodeWire_eq_ok_cases hdecode with ⟨rfl, rfl⟩ | ⟨rfl, raw, hraw, rfl⟩ | ⟨hdelim, hesc, rfl⟩
    · exact (scanSymbol_of_delim hlt hb).trans (execDelim_of_scan hs).symm
    · rw [scanSymbol_of_marker hlt hb, hfollower, hraw, exec_symbolOf_of_unesc hraw hs]
      rfl
    · exact (scanSymbol_of_literal hlt hb hdelim hesc).trans (execLit_of_scan hs b).symm
  · obtain ⟨rfl, hraw⟩ := decodeWire_eq_error_cases hdecode
    rw [scanSymbol_of_marker hlt hb, hfollower, hraw]
    rfl

end Sys2Proof.Machine
end

section
/-! ## The sum and the checksum as numbers (rules R130, R131)

CSACC's eight bits are the sum of the bytes as unsigned integers, the carries dropped. -/

namespace Sys2Proof.Machine

theorem sumBytes_eq_ofNat (l : List Byte) : sumBytes l = BitVec.ofNat 8 (l.map BitVec.toNat).sum := by
  induction l with
  | nil => rfl
  | cons b l ih =>
    rw [sumBytes_cons, List.map_cons, List.sum_cons, BitVec.ofNat_add, ← ih, BitVec.ofNat_toNat, BitVec.setWidth_eq]

theorem toNat_sumBytes (l : List Byte) : (sumBytes l).toNat = (l.map BitVec.toNat).sum % 256 := by
  rw [sumBytes_eq_ofNat, BitVec.toNat_ofNat]

theorem toNat_checksum (l : List Byte) : (checksum l).toNat = 255 - (l.map BitVec.toNat).sum % 256 := by
  rw [checksum, BitVec.toNat_not, toNat_sumBytes]

theorem checksum_eq_xor (l : List Byte) : checksum l = sumBytes l ^^^ 0xFF#8 :=
  BitVec.xor_allOnes.symm

/-- Settles O14: the sum's low eight bits are its remainder mod 256, and the complement is the xor with all ones. -/
theorem checksumIsComplementOfModularSum : Obligations.ChecksumIsComplementOfModularSum := by
  refine ⟨fun bs => ⟨toNat_checksum bs, ?_⟩, rfl⟩
  rw [checksum_eq_xor, ← toNat_sumBytes, BitVec.ofNat_toNat, BitVec.setWidth_eq]

end Sys2Proof.Machine
end

section
/-! ## The laws of the checksum (rule R132)

They are laws of the sum: the checksum is its complement, and two sums with one complement are equal. -/

namespace Sys2Proof.Machine

theorem checksum_inj {l m : List Byte} : checksum l = checksum m ↔ sumBytes l = sumBytes m :=
  BitVec.not_inj

theorem sumBytes_perm {l m : List Byte} (h : l.Perm m) : sumBytes l = sumBytes m := by
  rw [sumBytes_eq_ofNat, sumBytes_eq_ofNat, (h.map BitVec.toNat).sum_eq]

theorem sumBytes_concat (l : List Byte) (b : Byte) : sumBytes (l ++ [b]) = sumBytes l + b := by
  rw [sumBytes_append, sumBytes_cons, sumBytes_nil, add_zero]

/-- A byte counts the same wherever it stands. -/
theorem sumBytes_middle (l m : List Byte) (b : Byte) : sumBytes (l ++ b :: m) = b + sumBytes (l ++ m) :=
  sumBytes_perm List.perm_middle

theorem checksum_concat (l : List Byte) (b : Byte) : checksum (l ++ [b]) = checksum l - b := by
  rw [checksum, checksum, sumBytes_concat, BitVec.not_eq_neg_add, BitVec.not_eq_neg_add]
  ring

/-- The decoder's form and the validator's form of the test (rules R132 (d), R179). -/
theorem eq_checksum_iff {l : List Byte} {c : Byte} : c = checksum l ↔ sumBytes (l ++ [c]) = 0xFF#8 := by
  rw [sumBytes_concat, checksum, ← BitVec.toNat_inj, BitVec.toNat_not]
  constructor <;> intro h <;> bv_omega

theorem checksum_append_of_sum_mod {m : List Byte} (l : List Byte) (h : (m.map BitVec.toNat).sum % 256 = 0) :
    checksum (l ++ m) = checksum l := by
  have hm : sumBytes m = 0 := BitVec.eq_of_toNat_eq ((toNat_sumBytes m).trans h)
  rw [checksum_inj, sumBytes_append, hm, add_zero]

theorem flipBit_flipBit (b : Byte) (k : Nat) : flipBit (flipBit b k) k = b := by
  rw [flipBit, flipBit, BitVec.xor_assoc, BitVec.xor_self, BitVec.xor_zero]

theorem getLsbD_flipBit_self (b : Byte) {k : Nat} (hk : k < 8) : (flipBit b k).getLsbD k = !b.getLsbD k := by
  simp [flipBit, hk]

theorem flipBit_ne_self (b : Byte) {k : Nat} (hk : k < 8) : flipBit b k ≠ b := fun h =>
  Bool.not_ne_self _ ((getLsbD_flipBit_self b hk).symm.trans (congrArg (BitVec.getLsbD · k) h))

/-- Where no bit is set on both sides, the bitwise sum and the union are the same. -/
theorem xor_eq_or_of_and_eq_zero {x y : Byte} (h : x &&& y = 0#8) : x ^^^ y = x ||| y := by
  ext i hi
  have hbit : (x[i] && y[i]) = false := by rw [← BitVec.getElem_and, h, BitVec.getElem_zero]
  rw [BitVec.getElem_xor, BitVec.getElem_or]
  cases hx : x[i] with
  | false => rw [Bool.false_xor, Bool.false_or]
  | true => rw [hx, Bool.true_and] at hbit; rw [hbit]; rfl

/-- Setting a clear bit carries nothing. -/
theorem flipBit_of_getLsbD_false {b : Byte} {k : Nat} (h : b.getLsbD k = false) : flipBit b k = b + (1#8 <<< k) := by
  have hand : b &&& (1#8 <<< k) = 0#8 := (BitVec.and_twoPow b k).trans (if_neg (Bool.eq_false_iff.1 h))
  rw [flipBit, xor_eq_or_of_and_eq_zero hand, BitVec.add_eq_or_of_and_eq_zero _ _ hand]

theorem flipBit_cases (b : Byte) {k : Nat} (hk : k < 8) :
    flipBit b k = b + (1#8 <<< k) ∨ flipBit b k = b - (1#8 <<< k) := by
  cases hbit : b.getLsbD k with
  | false => exact .inl (flipBit_of_getLsbD_false hbit)
  | true =>
    have hclear : (flipBit b k).getLsbD k = false := by rw [getLsbD_flipBit_self b hk, hbit]; rfl
    have hset := flipBit_of_getLsbD_false hclear
    rw [flipBit_flipBit] at hset
    exact .inr (eq_sub_of_add_eq hset.symm)

/-- Settles O15: the laws one by one; the 256 zero bytes are a sequence whose sum is 0. -/
theorem checksumLaws : Obligations.ChecksumLaws := by
  refine ⟨rfl, fun _ _ h => checksum_inj.2 (sumBytes_perm h), checksum_concat, fun _ _ => eq_checksum_iff,
    fun l m b k hk => ⟨?_, ?_⟩, fun l _ => checksum_append_of_sum_mod l,
    fun l => checksum_append_of_sum_mod l (by rw [List.map_replicate, List.sum_replicate]; rfl)⟩
  · rw [sumBytes_middle, sumBytes_middle]
    rcases flipBit_cases b hk with h | h
    · left; rw [h]; ring
    · right; rw [h]; ring
  · rw [Ne, checksum_inj, sumBytes_middle, sumBytes_middle, add_left_inj]
    exact flipBit_ne_self b hk

end Sys2Proof.Machine
end

section
/-! ## CSCLR, CSADD and the host's checksum sequence (rules R133 to R136) -/

namespace Sys2Proof

theorem decodeCmd_of_csclr {w : Word} (h : opcodeOf w = 0x07#8) : decodeCmd w = .csclr := by
  rw [decodeCmd, h]
  rfl

theorem decodeCmd_of_csadd {w : Word} (h : opcodeOf w = 0x08#8) : decodeCmd w = .csadd (immOf w) := by
  rw [decodeCmd, h]
  rfl

end Sys2Proof

namespace Sys2Proof.Machine

/-- Settles O12: the opcode alone selects CSCLR, and the effect is its definition's. -/
theorem csclrClearsTheAccumulator : Obligations.CsclrClearsTheAccumulator :=
  ⟨fun _ => decodeCmd_of_csclr, fun s =>
    ⟨{ s with csacc := 0x00#8, err := .none }, rfl, rfl, rfl, congrArg (some <| PortValue.byte ·) BitVec.not_zero⟩⟩

/-- Settles O13: the sum of two bytes is their sum as numbers mod 256. -/
theorem csaddAddsModulo256 : Obligations.CsaddAddsModulo256 := by
  refine ⟨fun _ => decodeCmd_of_csadd, fun imm s => ?_⟩
  have hsum : s.csacc + imm = BitVec.ofNat 8 ((s.csacc.toNat + imm.toNat) % 256) :=
    BitVec.eq_of_toNat_eq (by simp)
  rw [← hsum]
  rfl

/-- The accesses of `CSADD b` for each byte add their sum to CSACC. -/
theorem hostProgram_csadd (bs : List Byte) (rest : List Access) (a : Byte) (s : State) :
    hostProgram (bs.map (fun b => command b 0x08#8) ++ rest) { s with csacc := a, err := .none } =
      hostProgram rest { s with csacc := a + sumBytes bs, err := .none } := by
  induction bs generalizing a with
  | nil => rw [sumBytes_nil, add_zero]; rfl
  | cons b bs ih =>
    have hadd : hostAccess (command b 0x08#8) { s with csacc := a, err := .none } =
        .next { s with csacc := a + b, err := .none } :=
      congrArg (exec · _) (decodeCmd_csadd b)
    rw [List.map_cons, List.cons_append, hostProgram, hadd, andThen_next, ih, sumBytes_cons, add_assoc]

/-- Settles O16: CSCLR starts the sum at 0, and the read of CSOUT complements it. -/
theorem hostChecksumSequenceReadsTheChecksum : Obligations.HostChecksumSequenceReadsTheChecksum := by
  intro bs s
  have hclear : hostAccess (command 0x00#8 0x07#8) s = .next { s with csacc := 0, err := .none } := rfl
  rw [checksumProgram, hostProgram, hclear, andThen_next, hostProgram_csadd, zero_add]
  rfl

end Sys2Proof.Machine
end

section
/-! ## The length test (rules R138, R178) -/

namespace Sys2Proof.Machine

/-- Settles O32: the test's two sides as numbers. -/
theorem lengthTestDoesNotWrap : Obligations.LengthTestDoesNotWrap := fun _ _ =>
  lengthMatches_iff.trans eq_comm

end Sys2Proof.Machine
end

section
/-! ## DECODE of a buffer that carries a logical body

The scan reads what the function `unescape` reads and puts its result at RXB[0..WR); where that is a logical body, the tests
of steps 3 and 4 pass (rules R174 to R180, R187). -/

namespace Sys2Proof.Machine

theorem Memory.readRange_eq_some_cons {m : Memory} {i k : Nat} {b : Byte} {bs : List Byte} :
    Memory.readRange m i (k + 1) = some (b :: bs) ↔
      Memory.read m i = some b ∧ Memory.readRange m (i + 1) k = some bs := by
  rw [Memory.readRange_succ]
  cases Memory.read m i <;> cases Memory.readRange m (i + 1) k <;> simp

/-- A write before a range does not change it. -/
theorem Memory.readRange_write_of_lt {m : Memory} {i j : Nat} (k : Nat) (v : Byte) (h : j < i) :
    Memory.readRange (Memory.write m j v) i k = Memory.readRange m i k := by
  induction k generalizing i with
  | zero => rfl
  | succ k ih => rw [Memory.readRange_succ, Memory.readRange_succ, Memory.read_write_other _ _ (by omega), ih (by omega)]

/-- What a successful scan has read at its front: a literal, or a marker and a code (rules R174, R175). -/
theorem unescape_eq_ok_cases {b f : Byte} {rest l : List Byte} (h : unescape (b :: f :: rest) = .ok l) :
    (b ≠ Config.delim ∧ b ≠ Config.esc ∧ ∃ m, unescape (f :: rest) = .ok m ∧ l = b :: m) ∨
      (b = Config.esc ∧ ∃ raw m, unesc f = some raw ∧ unescape rest = .ok m ∧ l = raw :: m) := by
  rw [unescape] at h
  split at h
  · cases h
  next hdelim =>
  split at h
  next hesc =>
    split at h
    · cases h
    next raw hraw =>
    split at h
    · cases h
    next m hm =>
    cases h
    exact .inr ⟨hesc, raw, m, hraw, hm, rfl⟩
  next hesc =>
    split at h
    · cases h
    next m hm =>
    cases h
    exact .inl ⟨hdelim, hesc, m, hm, rfl⟩

/-- The scan goes on behind a symbol that wrote a logical byte. -/
theorem scanLoop_of_put {fuel : Nat} {s : State} {raw : Byte} {rd : Word} (hs : s.decst = .scan)
    (hlen : s.rd.toNat + 2 ≤ s.rxlen.toNat)
    (hput : scanSymbol s = .next { s with rxb := Memory.write s.rxb s.wr.toNat raw, wr := s.wr + 1, rd := rd }) :
    scanLoop (fuel + 1) s =
      scanLoop fuel { s with rxb := Memory.write s.rxb s.wr.toNat raw, wr := s.wr + 1, rd := rd } := by
  rw [scanLoop, if_pos hlen, hput, andThen_next]
  exact if_pos hs

/-- At most one byte is left: the scan is over. -/
theorem scanLoop_of_end {s : State} (hlen : s.rxlen.toNat < s.rd.toNat + 2) (fuel : Nat) :
    scanLoop fuel s = decodeLength s := by
  cases fuel with
  | zero => rfl
  | succ fuel => rw [scanLoop, if_neg (Nat.not_le.2 hlen)]

/-- One step of a successful scan: the symbol's logical byte goes to RXB[WR], and RD stands behind the symbol. -/
theorem scanSymbol_of_unescape {b f : Byte} {rest l : List Byte} {s : State} (hcap : s.rxlen.toNat ≤ 522)
    (hcursors : s.wr.toNat ≤ s.rd.toNat) (hend : s.rd.toNat + (b :: f :: rest).length = s.rxlen.toNat)
    (hbody : Memory.readRange s.rxb s.rd.toNat (b :: f :: rest).length = some (b :: f :: rest))
    (hok : unescape (b :: f :: rest) = .ok l) :
    ∃ (raw : Byte) (m left : List Byte) (rd : Word), l = raw :: m ∧ unescape left = .ok m ∧
      scanSymbol s = .next { s with rxb := Memory.write s.rxb s.wr.toNat raw, wr := s.wr + 1, rd := rd } ∧
      s.rd.toNat < rd.toNat ∧ rd.toNat + left.length = s.rxlen.toNat ∧
      Memory.readRange s.rxb rd.toNat left.length = some left := by
  simp only [List.length_cons] at hend hbody
  obtain ⟨hb, hrest⟩ := Memory.readRange_eq_some_cons.1 hbody
  have hrd : (s.rd + 1).toNat = s.rd.toNat + 1 := by bv_omega
  rcases unescape_eq_ok_cases hok with ⟨hdelim, hesc, m, hm, rfl⟩ | ⟨rfl, raw, m, hraw, hm, rfl⟩
  · have hput := (scanSymbol_of_literal (by omega) hb hdelim hesc).trans (scanPut_of_lt (by omega))
    refine ⟨b, m, f :: rest, s.rd + 1, rfl, hm, hput, ?_, ?_, ?_⟩
    · omega
    · rw [hrd, List.length_cons]; omega
    · rw [hrd]; exact hrest
  · obtain ⟨hf, hleft⟩ := Memory.readRange_eq_some_cons.1 hrest
    have hrd2 : (s.rd + 1 + 1).toNat = s.rd.toNat + 1 + 1 := by bv_omega
    have hput := (scanSymbol_of_marker (by omega) hb).trans
      (scanFollower_of_read (s := { s with rd := s.rd + 1 }) (f := f) (by rw [hrd]; omega) (by rw [hrd]; exact hf))
    rw [hraw, Option.elim_some, scanPut_of_lt (s := { s with rd := s.rd + 1 }) (show s.wr.toNat < 522 by omega)] at hput
    refine ⟨raw, m, rest, s.rd + 1 + 1, rfl, hm, hput, ?_, ?_, ?_⟩
    · omega
    · omega
    · rw [hrd2]; exact hleft

/-- A cursor that counts on by one and then by `n`. -/
theorem add_one_add_ofNat (x : Word) (n : Nat) : x + 1 + BitVec.ofNat 16 n = x + BitVec.ofNat 16 (n + 1) := by
  rw [Nat.add_comm n, BitVec.ofNat_add, BitVec.add_assoc]
  rfl

/-- The scan, whole: RXB[RD..RXLEN) is read as `unescape` reads it, and the logical bytes go to RXB from WR on. WR never
passes RD, so no byte is overwritten before it is read (rule R184). -/
theorem scanLoop_of_unescape {fuel : Nat} {body l : List Byte} {s : State} (hs : s.decst = .scan)
    (hcap : s.rxlen.toNat ≤ 522) (hcursors : s.wr.toNat ≤ s.rd.toNat) (hend : s.rd.toNat + body.length = s.rxlen.toNat)
    (hfuel : body.length ≤ fuel) (hbody : Memory.readRange s.rxb s.rd.toNat body.length = some body)
    (hok : unescape body = .ok l) :
    ∃ rd : Word, scanLoop fuel s = decodeLength { s with
      rxb := Memory.writeRange s.rxb s.wr.toNat l, wr := s.wr + BitVec.ofNat 16 l.length, rd := rd } := by
  induction fuel generalizing body l s with
  | zero =>
    obtain rfl := List.eq_nil_of_length_eq_zero (Nat.le_zero.1 hfuel)
    cases hok
    exact ⟨s.rd, by simp [scanLoop, Memory.writeRange]⟩
  | succ fuel ih =>
    match body with
    | [] | [_] =>
      cases hok
      rw [scanLoop_of_end (by simp at hend; omega)]
      exact ⟨s.rd, by simp [Memory.writeRange]⟩
    | b :: f :: rest =>
      obtain ⟨raw, m, left, rd, rfl, hm, hput, hlt, hend', hleft⟩ := scanSymbol_of_unescape hcap hcursors hend hbody hok
      simp only [List.length_cons] at hend hfuel
      have hwr : (s.wr + 1).toNat = s.wr.toNat + 1 := by bv_omega
      rw [← Memory.readRange_write_of_lt left.length raw (Nat.lt_of_le_of_lt hcursors hlt)] at hleft
      obtain ⟨rd', h⟩ := ih (s := { s with rxb := Memory.write s.rxb s.wr.toNat raw, wr := s.wr + 1, rd := rd }) hs hcap
        (by simp only [hwr]; omega) hend' (by omega) hleft hm
      refine ⟨rd', (scanLoop_of_put hs (by omega) hput).trans (h.trans ?_)⟩
      simp only [hwr, add_one_add_ofNat, Memory.writeRange, List.length_cons]

/-- The sum of step 4, whole, over bytes that are there (rules R131, R179). -/
theorem sumLoop_of_readRange {k : Nat} {bs : List Byte} {s : State} (hcap : s.rd.toNat + k ≤ 522)
    (hbs : Memory.readRange s.rxb s.rd.toNat k = some bs) :
    sumLoop k s = compareChecksum { s with csacc := s.csacc + sumBytes bs, rd := s.rd + BitVec.ofNat 16 k } := by
  induction k generalizing bs s with
  | zero =>
    cases hbs
    simp [sumLoop]
  | succ k ih =>
    match bs with
    | [] => cases (Memory.readRange_eq_some.1 hbs).1
    | b :: bs =>
      obtain ⟨hb, hrest⟩ := Memory.readRange_eq_some_cons.1 hbs
      have hrd : (s.rd + 1).toNat = s.rd.toNat + 1 := by bv_omega
      rw [← hrd] at hrest
      rw [sumLoop, fetchByte_of_read (sp := .rxb) (s := s) _ (show _ < 522 by omega) hb,
        ih (s := { accumulate b s with rd := s.rd + 1 }) (by simp only [hrd]; omega) hrest]
      simp only [accumulate, add_one_add_ofNat, sumBytes_cons, ← BitVec.add_assoc]

/-- The test of step 4 passes where RD stands at the complement of CSACC (rules R179, R180). -/
theorem compareChecksum_of_read {a c n : Byte} {s : State} (hrd : s.rd.toNat < 522)
    (hx : Memory.read s.rxb s.rd.toNat = some (~~~ s.csacc)) (ha : Memory.read s.rxb 0 = some a)
    (hc : Memory.read s.rxb 1 = some c) (hn : Memory.read s.rxb 2 = some n) :
    compareChecksum s = .next (decodeEnd a c n s) := by
  rw [compareChecksum, fetchByte_of_read (sp := .rxb) (s := s) _ hrd hx, if_neg (not_not.2 rfl),
    fetchByte_of_read (sp := .rxb) (s := s) _ (show 0 < 522 by decide) ha,
    fetchByte_of_read (sp := .rxb) (s := s) _ (show 1 < 522 by decide) hc,
    fetchByte_of_read (sp := .rxb) (s := s) _ (show 2 < 522 by decide) hn]

theorem length_logicalFields (a c : Byte) (p : List Byte) : (logicalFields a c p).length = p.length + 3 := rfl

theorem length_logicalBody (a c : Byte) (p : List Byte) : (logicalBody a c p).length = p.length + 4 :=
  List.length_append

/-- Steps 3 to 5 on RXB[0..WR) that is a logical body (rules R177 to R180). -/
theorem decodeLength_of_logicalBody {a c : Byte} {p : List Byte} {s : State} (hp : p.length ≤ 255)
    (hwr : s.wr = BitVec.ofNat 16 (p.length + 4)) (hacc : s.csacc = 0)
    (hbody : Memory.readRange s.rxb 0 (p.length + 4) = some (logicalBody a c p)) :
    decodeLength s = .next (decodeEnd a c (BitVec.ofNat 8 p.length) { s with
      rxusz := BitVec.ofNat 16 (p.length + 4), csacc := sumBytes (logicalFields a c p)
      rd := BitVec.ofNat 16 (p.length + 3) }) := by
  obtain ⟨-, hread⟩ := Memory.readRange_eq_some.1 hbody
  simp only [Nat.zero_add] at hread
  have ha : Memory.read s.rxb 0 = some a := hread 0 (by omega)
  have hc : Memory.read s.rxb 1 = some c := hread 1 (by omega)
  have hn : Memory.read s.rxb 2 = some (BitVec.ofNat 8 p.length) := hread 2 (by omega)
  have hx : Memory.read s.rxb (p.length + 3) = some (checksum (logicalFields a c p)) := by
    rw [hread _ (by omega), logicalBody, ← length_logicalFields a c p, List.getElem?_concat_length]
  have hfields : Memory.readRange s.rxb 0 (p.length + 3) = some (logicalFields a c p) := by
    refine Memory.readRange_eq_some.2 ⟨rfl, fun j hj => ?_⟩
    rw [Nat.zero_add, hread j (by omega), logicalBody, List.getElem?_append_left hj]
  have hwrNat : s.wr.toNat = p.length + 4 := by rw [hwr, BitVec.toNat_ofNat]; omega
  have hmatch : lengthMatches (BitVec.ofNat 8 p.length) s.wr = true := by
    rw [lengthMatches_iff, hwrNat, BitVec.toNat_ofNat, Config.ovh]
    omega
  have hsum : s.wr.toNat - 1 = p.length + 3 := by omega
  have hrd : (BitVec.ofNat 16 (p.length + 3)).toNat = p.length + 3 := by rw [BitVec.toNat_ofNat]; omega
  rw [decodeLength, fetchByte_of_read (sp := .rxb) (s := { s with rxusz := s.wr }) _ (show 2 < 522 by decide) hn,
    if_pos hmatch, hsum, sumLoop_of_readRange (s := { s with rxusz := s.wr, rd := 0 }) (bs := logicalFields a c p)
      (show 0 + _ ≤ 522 by omega) hfields]
  simp only [hacc, hwr, zero_add]
  exact compareChecksum_of_read (by rw [hrd]; omega) (by rw [hrd]; exact hx) ha hc hn

/-- Step 1 passes where both ends are delimiters and the length is enough (rule R173). -/
theorem decodeHeader_of_headerOk {raw : List Byte} {s : State} {k : State → Res} (hcap : s.rxlen.toNat ≤ 522)
    (hraw : Memory.readRange s.rxb 0 s.rxlen.toNat = some raw) (hok : headerOk raw = true) :
    decodeHeader s k = k s := by
  obtain ⟨hlen, hread⟩ := Memory.readRange_eq_some.1 hraw
  simp only [headerOk, Bool.and_eq_true, decide_eq_true_eq, beq_iff_eq, hlen] at hok
  obtain ⟨⟨hmin, hfirst⟩, hlast⟩ := hok
  have hpos : 6 ≤ s.rxlen.toNat := hmin
  simp only [Nat.zero_add] at hread
  have h0 : Memory.read s.rxb 0 = some Config.delim := by rw [hread 0 (by omega), ← List.head?_eq_getElem?, hfirst]
  have h1 : Memory.read s.rxb (s.rxlen.toNat - 1) = some Config.delim := by
    rw [hread _ (by omega), ← hlen, ← List.getLast?_eq_getElem?, hlast]
  rw [decodeHeader, if_neg (Nat.not_lt.2 hmin), fetchByte_of_read (sp := .rxb) (s := s) _ (show 0 < 522 by decide) h0,
    if_neg (not_not.2 rfl), fetchByte_of_read (sp := .rxb) (s := s) _ (show _ < 522 by omega) h1, if_neg (not_not.2 rfl)]

/-- The state DECODE leaves with a logical body (rule R180). -/
def decodeResult (a c : Byte) (p : List Byte) (s : State) : State :=
  decodeEnd a c (BitVec.ofNat 8 p.length) { s with
    rxb := Memory.writeRange s.rxb 0 (logicalBody a c p)
    rxusz := BitVec.ofNat 16 (p.length + 4)
    csacc := sumBytes (logicalFields a c p)
    rd := BitVec.ofNat 16 (p.length + 3)
    wr := BitVec.ofNat 16 (p.length + 4) }

/-- DECODE, whole, of a received buffer whose body is the escaped form of a logical body (rules R170, R187). -/
theorem exec_decode_of_logicalBody {a c : Byte} {p raw : List Byte} {s : State} (harmed : s.rxarmed = false)
    (hcap : s.rxlen.toNat ≤ 522) (hraw : Memory.readRange s.rxb 0 s.rxlen.toNat = some raw) (hheader : headerOk raw = true)
    (hbody : unescape raw.tail = .ok (logicalBody a c p)) (hp : p.length ≤ 255) :
    exec .decode s = .next (decodeResult a c p s) := by
  have hrefused : ¬ decodeRefused s = true := by
    simp only [decodeRefused, harmed, Bool.false_or, decide_eq_true_eq, not_lt]
    exact hcap
  rw [exec, execDecode, if_neg hrefused, decodeHeader_of_headerOk (s := decodeStart s) hcap hraw hheader]
  have hlen := (Memory.readRange_eq_some.1 hraw).1
  match raw with
  | [] => cases hheader
  | d :: body =>
    rw [← hlen] at hraw
    obtain ⟨-, htail⟩ := Memory.readRange_eq_some_cons.1 hraw
    have hone : (1 : Word).toNat = 1 := rfl
    obtain ⟨rd, hscan⟩ := scanLoop_of_unescape (fuel := s.rxlen.toNat)
      (s := { decodeStart s with rd := 1, wr := 0, decst := .scan }) rfl hcap (Nat.zero_le 1)
      (by rw [hone, Nat.add_comm]; exact hlen) (by rw [← hlen]; exact Nat.le_succ _) htail hbody
    have hread := Memory.readRange_writeRange s.rxb 0 (logicalBody a c p)
    rw [length_logicalBody] at hread
    refine hscan.trans ?_
    rw [decodeLength_of_logicalBody hp (by rw [length_logicalBody]; exact zero_add _) rfl hread]
    simp only [length_logicalBody, zero_add]
    rfl

end Sys2Proof.Machine
end

section
/-! ## The round trip through the block (rules R156, R187) -/

namespace Sys2Proof.Machine

/-- The scan takes an escaped logical body apart again, up to the closing delimiter. -/
theorem unescape_escapeAll (l : List Byte) (x : Byte) : unescape (escapeAll l ++ [x]) = .ok l := by
  induction l with
  | nil => rfl
  | cons b l ih =>
    obtain ⟨y, ys, h⟩ : ∃ y ys, escapeAll l ++ [x] = y :: ys := List.exists_cons_of_ne_nil (by simp)
    rw [escapeAll_cons, List.append_assoc, h, unescape_esc, ← h, ih]
    rfl

theorem unescape_tail_stuff (a c : Byte) (p : List Byte) : unescape (stuff a c p).tail = .ok (logicalBody a c p) :=
  unescape_escapeAll (logicalBody a c p) Config.delim

/-- The length of a wire frame (rule R158). -/
theorem length_stuff (a c : Byte) (p : List Byte) :
    (stuff a c p).length = 2 + (p.length + 4) + (logicalBody a c p).countP special := by
  rw [stuff, List.length_cons, List.length_append, length_escapeAll, length_logicalBody, List.length_singleton]
  omega

theorem headerOk_stuff (a c : Byte) (p : List Byte) : headerOk (stuff a c p) = true := by
  have hlen : Config.minLen ≤ (stuff a c p).length := by rw [length_stuff, Config.minLen]; omega
  have hlast : (stuff a c p).getLast? = some Config.delim := by rw [stuff, ← List.cons_append, List.getLast?_concat]
  rw [headerOk, decide_eq_true hlen, hlast]
  rfl

/-- `load`: the bytes go to RXB one after another, then RXLEN is written (rules R62, R64). -/
theorem hostProgram_loadRxb {bs : List Byte} {i : Nat} {s : State} (harmed : s.rxarmed = false)
    (hcap : i + bs.length ≤ 522) (n : Word) (rest : List Access) :
    hostProgram (loadRxb i n bs ++ rest) s = hostProgram rest { s with
      rxb := Memory.writeRange s.rxb i bs, rxlen := n, rxvalid := false } := by
  induction bs generalizing i s with
  | nil =>
    have hwrite : hostAccess (.regWrite 7 (.half n)) s = .next { s with rxlen := n, rxvalid := false } :=
      writeRxlen_of_unarmed harmed n
    rw [loadRxb, List.cons_append, hostProgram, hwrite]
    rfl
  | cons b bs ih =>
    rw [List.length_cons] at hcap
    have hwrite : hostAccess (.bufWrite .rxb i b) s = .next { s with rxb := Memory.write s.rxb i b, rxvalid := false } :=
      hostBufWrite_rxb_of_unarmed (show i < 522 by omega) harmed b
    rw [loadRxb, List.cons_append, hostProgram, hwrite, andThen_next,
      ih (s := { s with rxb := Memory.write s.rxb i b, rxvalid := false }) harmed (by omega)]
    rfl

theorem length_stuff_le_of_written {s : State} {p : List Byte}
    (hp : Memory.readRange s.txpay 0 s.txlen.toNat = some p) : (stuff s.txadr s.txcmd p).length ≤ 522 := by
  have hlt := s.txlen.isLt
  exact length_stuff_le (by rw [(Memory.readRange_eq_some.1 hp).1, Config.maxPay]; omega)

/-- TXWLEN after ENCODE is the length of the frame. -/
theorem txwlen_encodeResult {s : State} {p : List Byte} (hp : Memory.readRange s.txpay 0 s.txlen.toNat = some p) :
    (encodeResult p s).txwlen.toNat = (stuff s.txadr s.txcmd p).length := by
  have hle := length_stuff_le_of_written hp
  exact Nat.mod_eq_of_lt (by omega)

/-- TXW[0..TXWLEN) after ENCODE is the frame. -/
theorem readRange_txw_encodeResult {s : State} {p : List Byte}
    (hp : Memory.readRange s.txpay 0 s.txlen.toNat = some p) :
    Memory.readRange (encodeResult p s).txw 0 (encodeResult p s).txwlen.toNat = some (stuff s.txadr s.txcmd p) := by
  rw [txwlen_encodeResult hp]
  exact Memory.readRange_writeRange s.txw 0 (stuff s.txadr s.txcmd p)

/-- A frame loaded over the port and decoded. -/
theorem hostProgram_load_decode {a c : Byte} {p : List Byte} {s : State} (harmed : s.rxarmed = false)
    (hp : p.length ≤ 255) :
    hostProgram (loadRxb 0 (BitVec.ofNat 16 (stuff a c p).length) (stuff a c p) ++ [command 0x00#8 0x02#8]) s =
      .next (decodeResult a c p { s with
        rxb := Memory.writeRange s.rxb 0 (stuff a c p), rxlen := BitVec.ofNat 16 (stuff a c p).length
        rxvalid := false }) := by
  have hle : (stuff a c p).length ≤ 522 := length_stuff_le hp
  have hlen : (BitVec.ofNat 16 (stuff a c p).length).toNat = (stuff a c p).length := by
    rw [BitVec.toNat_ofNat]; omega
  have hraw := Memory.readRange_writeRange s.rxb 0 (stuff a c p)
  rw [← hlen] at hraw
  have hdecode := exec_decode_of_logicalBody (s := { s with
    rxb := Memory.writeRange s.rxb 0 (stuff a c p), rxlen := BitVec.ofNat 16 (stuff a c p).length, rxvalid := false })
    harmed (by rw [hlen]; exact hle) hraw (headerOk_stuff a c p) (unescape_tail_stuff a c p) hp
  rw [hostProgram_loadRxb harmed (by omega), hostProgram]
  exact congrArg (andThen · (hostProgram [])) hdecode

/-- The payload of the frame DECODE leaves at RXB[0..RXUSZ) (rule R185). -/
theorem readRange_payload_decodeResult (a c : Byte) (p : List Byte) (s : State) :
    Memory.readRange (decodeResult a c p s).rxb 3 p.length = some p := by
  refine Memory.readRange_eq_some.2 ⟨rfl, fun j hj => ?_⟩
  have hbody : (logicalBody a c p)[3 + j]? = p[j]? := by
    rw [logicalBody, List.getElem?_append_left (by rw [length_logicalFields]; omega), Nat.add_comm]
    rfl
  rw [← hbody]
  exact (Memory.read_writeRange _ _ _ _).trans (if_pos ⟨Nat.zero_le _, by rw [length_logicalBody]; omega⟩)

/-- Settles O29: ENCODE leaves `stuff` of the operands in TXW, and its body unescapes to the logical body they make. -/
theorem roundTripThroughTheBlock : Obligations.RoundTripThroughTheBlock := by
  intro s p harmed hp
  have hlen : p.length = s.txlen.toNat := (Memory.readRange_eq_some.1 hp).1
  have hn : BitVec.ofNat 8 p.length = s.txlen := by rw [hlen, BitVec.ofNat_toNat, BitVec.setWidth_eq]
  have hlt := s.txlen.isLt
  have hpayload := readRange_payload_decodeResult s.txadr s.txcmd p
  refine ⟨encodeResult p s, stuff s.txadr s.txcmd p, _, exec_encode_of_written hp, readRange_txw_encodeResult hp,
    hostProgram_load_decode (s := encodeResult p s) harmed (by omega), rfl, rfl, rfl, rfl, hn, ?_, ?_⟩
  · change Memory.readRange _ 3 (BitVec.ofNat 8 p.length).toNat = _
    rw [hn, ← hlen]
    exact hpayload _
  · change (BitVec.ofNat 16 (p.length + 4)).toNat = _
    rw [BitVec.toNat_ofNat, hlen]
    omega

end Sys2Proof.Machine
end

section
/-! ## ENCODE builds the wire frame (rules R150, R153) -/

namespace Sys2Proof

theorem decodeCmd_of_encode {w : Word} (h : opcodeOf w = 0x01#8) : decodeCmd w = .encode := by
  rw [decodeCmd, h]
  rfl

end Sys2Proof

namespace Sys2Proof.Machine

/-- Settles O17: TXW is the old one with the frame written over its front. -/
theorem encodeBuildsTheWireFrame : Obligations.EncodeBuildsTheWireFrame := by
  refine ⟨fun _ => decodeCmd_of_encode, fun s p hp => ⟨encodeResult p s, exec_encode_of_written hp, rfl, fun i => ?_⟩⟩
  have hread := Memory.read_writeRange (stuff s.txadr s.txcmd p) s.txw 0 i
  simp only [Nat.zero_le, true_and, Nat.zero_add, Nat.sub_zero] at hread
  exact hread

end Sys2Proof.Machine
end

section
/-! ## The escaping of a wire frame (rules R101, R155)

First for the escaped body, by induction on the logical bytes; then between the two delimiters. -/

namespace Sys2Proof.Machine

/-- A code is one of the four and no special byte. -/
theorem code_of_unesc {f b : Byte} (h : unesc f = some b) :
    f ∈ [0x31#8, 0x33#8, 0x5D#8, 0x5E#8] ∧ special f = false := by
  rcases unesc_cases h with ⟨rfl, -⟩ | ⟨rfl, -⟩ | ⟨rfl, -⟩ | ⟨rfl, -⟩ <;> decide

theorem special_eq_false_iff {b : Byte} :
    special b = false ↔ b ≠ 0x11#8 ∧ b ≠ 0x13#8 ∧ b ≠ Config.esc ∧ b ≠ Config.delim := by
  simp [special, Config.esc, Config.delim, and_assoc]

/-- In an escaped body the marker is the only special byte (rules R101, R155). -/
theorem eq_marker_or_not_special_of_mem_escapeAll {l : List Byte} {x : Byte} (h : x ∈ escapeAll l) :
    x = Config.esc ∨ special x = false := by
  induction l with
  | nil => cases h
  | cons b l ih =>
    rcases List.mem_append.1 (escapeAll_cons b l ▸ h) with h | h
    · rcases esc_cases b with ⟨hb, -, -, hspecial⟩ | ⟨f, hb, hf, -⟩
      · obtain rfl := List.mem_singleton.1 (hb ▸ h)
        exact .inr hspecial
      · rcases List.mem_cons.1 (hb ▸ h) with rfl | h
        · exact .inl rfl
        · obtain rfl := List.mem_singleton.1 h
          exact .inr (code_of_unesc hf).2
    · exact ih h

/-- In an escaped body a marker stands directly before a code (rules R101, R155). -/
theorem code_follows_marker_in_escapeAll {l : List Byte} {i : Nat} (h : (escapeAll l)[i]? = some Config.esc) :
    ∃ f ∈ [0x31#8, 0x33#8, 0x5D#8, 0x5E#8], (escapeAll l)[i + 1]? = some f := by
  induction l generalizing i with
  | nil => cases h
  | cons b l ih =>
    rw [escapeAll_cons] at h ⊢
    rcases esc_cases b with ⟨hb, hesc, -⟩ | ⟨f, hb, hf, -⟩
    · rw [hb] at h ⊢
      match i with
      | 0 => exact absurd (Option.some.inj h) hesc
      | i + 1 => exact ih h
    · obtain ⟨hcode, hspecial⟩ := code_of_unesc hf
      rw [hb] at h ⊢
      match i with
      | 0 => exact ⟨f, hcode, rfl⟩
      | 1 =>
        obtain rfl : f = Config.esc := Option.some.inj h
        cases hspecial
      | i + 2 => exact ih h

/-- An index of a wire frame: the opening delimiter, a byte of the escaped body, or the closing delimiter. -/
theorem stuff_index_cases (a c : Byte) (p : List Byte) {i : Nat} (hi : i < (stuff a c p).length) :
    (i = 0 ∧ (stuff a c p)[i]? = some Config.delim) ∨
      (∃ j, i = j + 1 ∧ i + 1 < (stuff a c p).length ∧ j < (escapeAll (logicalBody a c p)).length ∧
        (stuff a c p)[i]? = (escapeAll (logicalBody a c p))[j]?) ∨
      (i = (stuff a c p).length - 1 ∧ (stuff a c p)[i]? = some Config.delim) := by
  have hlen : (stuff a c p).length = (escapeAll (logicalBody a c p)).length + 2 := by simp [stuff]
  match i with
  | 0 => exact .inl ⟨rfl, rfl⟩
  | j + 1 =>
    rcases Nat.lt_or_ge j (escapeAll (logicalBody a c p)).length with hj | hj
    · exact .inr (.inl ⟨j, rfl, by omega, hj, List.getElem?_append_left hj⟩)
    · obtain rfl : j = (escapeAll (logicalBody a c p)).length := by omega
      exact .inr (.inr ⟨by omega, List.getElem?_concat_length⟩)

/-- What stands at an index of a wire frame (rule R155). -/
theorem stuff_properlyEscaped (a c : Byte) (p : List Byte) {i : Nat} (hi : i < (stuff a c p).length) :
    ((stuff a c p)[i]? = some 0x7E#8 ↔ i = 0 ∨ i = (stuff a c p).length - 1) ∧
      ((stuff a c p)[i]? = some 0x7D#8 → i + 1 < (stuff a c p).length ∧
        ∃ f ∈ [0x31#8, 0x33#8, 0x5D#8, 0x5E#8], (stuff a c p)[i + 1]? = some f) ∧
      (stuff a c p)[i]? ≠ some 0x11#8 ∧ (stuff a c p)[i]? ≠ some 0x13#8 := by
  rcases stuff_index_cases a c p hi with ⟨hend, hat⟩ | ⟨j, rfl, hroom, hj, hat⟩ | ⟨hend, hat⟩
  · rw [hat]
    exact ⟨iff_of_true rfl (.inl hend), fun h => absurd h (by decide), by decide, by decide⟩
  · have hx := List.getElem?_eq_getElem hj
    have hmem := eq_marker_or_not_special_of_mem_escapeAll (List.getElem_mem hj)
    have hne : ∀ b : Byte, b ≠ Config.esc → special b = true → (escapeAll (logicalBody a c p))[j]? ≠ some b := by
      intro b hesc hspecial h
      rw [Option.some.inj (hx.symm.trans h), hspecial] at hmem
      exact hmem.elim hesc nofun
    rw [hat]
    refine ⟨iff_of_false (hne _ (by decide) rfl) (by omega), fun h => ⟨hroom, ?_⟩, hne _ (by decide) rfl,
      hne _ (by decide) rfl⟩
    obtain ⟨f, hf, hnext⟩ := code_follows_marker_in_escapeAll h
    have hjf := (List.getElem?_eq_some_iff.1 hnext).1
    exact ⟨f, hf, (List.getElem?_append_left hjf).trans hnext⟩
  · rw [hat]
    exact ⟨iff_of_true rfl (.inr hend), fun h => absurd h (by decide), by decide, by decide⟩

/-- A byte of TXW[0..TXWLEN) after ENCODE is the frame's. -/
theorem read_txw_encodeResult {s : State} {p : List Byte} {i : Nat} (hi : i < (stuff s.txadr s.txcmd p).length) :
    Memory.read (encodeResult p s).txw i = (stuff s.txadr s.txcmd p)[i]? :=
  (Memory.read_writeRange _ _ _ _).trans (if_pos ⟨Nat.zero_le i, by omega⟩)

/-- Settles O19: the bytes of TXW are those of `stuff`, index by index. -/
theorem encodedFrameIsProperlyEscaped : Obligations.EncodedFrameIsProperlyEscaped := by
  intro s p hp
  refine ⟨encodeResult p s, exec_encode_of_written hp, fun i hi => ?_⟩
  rw [txwlen_encodeResult hp] at hi ⊢
  obtain ⟨hdelim, hmarker, h11, h13⟩ := stuff_properlyEscaped s.txadr s.txcmd p hi
  rw [read_txw_encodeResult hi]
  refine ⟨hdelim, fun h => ?_, h11, h13⟩
  obtain ⟨hroom, f, hf, hnext⟩ := hmarker h
  exact ⟨hroom, f, hf, (read_txw_encodeResult hroom).trans hnext⟩

end Sys2Proof.Machine
end

section
/-! ## The length of a wire frame (rules R157, R158) -/

namespace Sys2Proof.Machine

theorem countP_special_logicalBody (a c : Byte) (p : List Byte) :
    (logicalBody a c p).countP special = [a, c, checksum (logicalFields a c p)].countP special +
      [BitVec.ofNat 8 p.length].countP special + p.countP special := by
  simp only [logicalBody, logicalFields, List.countP_append, List.countP_cons, List.countP_nil]
  omega

/-- The longest payload's length byte FF is not special, so one byte of the longest body goes out unescaped. -/
theorem length_stuff_bounds {a c : Byte} {p : List Byte} (hp : p.length ≤ 255) :
    6 ≤ (stuff a c p).length ∧ (stuff a c p).length ≤ 519 := by
  have hcount : (logicalBody a c p).countP special ≤ 258 := by
    have h3 : [a, c, checksum (logicalFields a c p)].countP special ≤ 3 := List.countP_le_length
    have h1 : [BitVec.ofNat 8 p.length].countP special ≤ 1 := List.countP_le_length
    have hn : p.countP special ≤ p.length := List.countP_le_length
    rw [countP_special_logicalBody]
    rcases Nat.lt_or_eq_of_le hp with hlt | heq
    · omega
    · have hff : [BitVec.ofNat 8 p.length].countP special = 0 := by rw [heq]; decide
      omega
  rw [length_stuff]
  omega

/-- A special byte is at most 7E. -/
theorem toNat_le_of_special {b : Byte} (h : special b = true) : b.toNat ≤ 126 := by
  simp only [special, Bool.or_eq_true, beq_iff_eq] at h
  rcases h with ((rfl | rfl) | rfl) | rfl <;> decide

theorem length_stuff_le_of_short {a c : Byte} {p : List Byte} (hp : p.length ≤ 126) : (stuff a c p).length ≤ 262 := by
  have hcount : (logicalBody a c p).countP special ≤ (logicalBody a c p).length := List.countP_le_length
  rw [length_logicalBody] at hcount
  rw [length_stuff]
  omega

theorem length_stuff_nil_eq_six_iff (a c : Byte) : (stuff a c []).length = 6 ↔
    special a = false ∧ special c = false ∧ special (checksum (logicalFields a c [])) = false := by
  have hzero : (stuff a c []).length = 6 ↔ (logicalBody a c []).countP special = 0 := by
    rw [length_stuff, List.length_nil]
    omega
  have hlen : special (BitVec.ofNat 8 0) = false := by decide
  rw [hzero, List.countP_eq_zero]
  simp [logicalBody, logicalFields, hlen]

theorem sumBytes_replicate (n : Nat) (b : Byte) : sumBytes (List.replicate n b) = BitVec.ofNat 8 (n * b.toNat) := by
  rw [sumBytes_eq_ofNat, List.map_replicate, List.sum_replicate, smul_eq_mul]

/-- Three 7E and 252 7D after address and command 7E sum with the length byte FF to 81, and the checksum is a
7E: all is special but the length byte. -/
theorem length_stuff_longest :
    (stuff 0x7E#8 0x7E#8 (List.replicate 3 0x7E#8 ++ List.replicate 252 0x7D#8)).length = 519 := by
  have hsum : checksum (logicalFields 0x7E#8 0x7E#8 (List.replicate 3 0x7E#8 ++ List.replicate 252 0x7D#8)) = 0x7E#8 := by
    rw [checksum, logicalFields, List.length_append, List.length_replicate, List.length_replicate, sumBytes_cons,
      sumBytes_cons, sumBytes_cons, sumBytes_append, sumBytes_replicate, sumBytes_replicate]
    rfl
  rw [length_stuff, countP_special_logicalBody, hsum, List.countP_append, List.countP_replicate, List.countP_replicate,
    List.length_append, List.length_replicate, List.length_replicate]
  rfl

/-- Settles O20: the length is that of `stuff`, which the payload's length and the special bytes of the body give. -/
theorem encodedLengthFormulaAndBounds : Obligations.EncodedLengthFormulaAndBounds := by
  refine ⟨fun s p hp => ⟨encodeResult p s, exec_encode_of_written hp, ?_⟩, length_stuff_nil_eq_six_iff, by decide,
    length_stuff_longest⟩
  have hlen : p.length = s.txlen.toNat := (Memory.readRange_eq_some.1 hp).1
  have hlt := s.txlen.isLt
  obtain ⟨hmin, hmax⟩ := length_stuff_bounds (a := s.txadr) (c := s.txcmd) (p := p) (by omega)
  rw [txwlen_encodeResult hp]
  refine ⟨by rw [length_stuff, hlen], hmin, hmax, fun hspecial => length_stuff_le_of_short ?_⟩
  rw [hlen]
  exact toNat_le_of_special hspecial

end Sys2Proof.Machine
end

section
/-! ## The encoder's state machine (rules R70, R151, R153)

Each row does what the operation's next step does, with ENCST counting along; emitting neither reads nor writes ENCST. -/

namespace Sys2Proof.Machine

/-- The encoder at a row. -/
def atEncst (e : EncState) (s : State) : State := { s with encst := e }

theorem andThen_congr {r : Res} {k l : State → Res} (h : ∀ t, r = .next t → k t = l t) : andThen r k = andThen r l := by
  cases r with
  | next t => exact h t rfl
  | fault f => rfl
  | refused q => rfl

theorem emit_atEncst (b : Byte) (e : EncState) (s : State) :
    emit b (atEncst e s) = andThen (emit b s) fun t => .next (atEncst e t) := by
  rw [emit, emit, storeByte, storeByte]
  change andThen (if s.txwlen.toNat < _ then _ else _) _ = _
  split <;> rfl

theorem emitAll_atEncst (bs : List Byte) (e : EncState) (s : State) :
    emitAll bs (atEncst e s) = andThen (emitAll bs s) fun t => .next (atEncst e t) := by
  induction bs generalizing s with
  | nil => rfl
  | cons b bs ih =>
    rw [emitAll, emitAll, emit_atEncst, andThen_assoc, andThen_assoc]
    exact congrArg (andThen (emit b s)) (funext ih)

theorem encodeByte_atEncst (b : Byte) (e : EncState) (s : State) :
    encodeByte b (atEncst e s) = andThen (encodeByte b s) fun t => .next (atEncst e t) := by
  rw [encodeByte, encodeByte, emitEsc, emitEsc, emitAll_atEncst, andThen_assoc, andThen_assoc]
  rfl

theorem encSteps_idle {s : State} (h : s.encst = .idle) (n : Nat) :
    encSteps (n + 1) s = andThen (emit Config.delim { s with txwlen := 0, csacc := 0 }) fun t =>
      encSteps n (atEncst .adr t) := by
  rw [encSteps, encStep, h, andThen_assoc]
  rfl

/-- A row whose step does not depend on ENCST, and the steps after it. -/
theorem andThen_atEncst {f : State → Res} {e : EncState} {s : State}
    (hf : f (atEncst e s) = andThen (f s) fun t => .next (atEncst e t)) (g k : State → Res) :
    andThen (andThen (f (atEncst e s)) g) k = andThen (f s) fun t => andThen (g (atEncst e t)) k := by
  rw [hf, andThen_assoc, andThen_assoc]
  rfl

theorem encSteps_adr (n : Nat) (s : State) :
    encSteps (n + 1) (atEncst .adr s) = andThen (encodeByte s.txadr s) fun t => encSteps n (atEncst .cmd t) :=
  andThen_atEncst (encodeByte_atEncst s.txadr .adr s) _ _

theorem encSteps_cmd (n : Nat) (s : State) :
    encSteps (n + 1) (atEncst .cmd s) = andThen (encodeByte s.txcmd s) fun t => encSteps n (atEncst .len t) :=
  andThen_atEncst (encodeByte_atEncst s.txcmd .cmd s) _ _

theorem encSteps_len (n : Nat) (s : State) :
    encSteps (n + 1) (atEncst .len s) = andThen (encodeByte s.txlen s) fun t =>
      encSteps n (atEncst (if 0 < t.txlen.toNat then .data else .chk) { t with pi := 0 }) :=
  andThen_atEncst (encodeByte_atEncst s.txlen .len s) _ _

theorem encSteps_data (n : Nat) (s : State) :
    encSteps (n + 1) (atEncst .data s) = fetchByte .txpay s.pi.toNat s fun p => andThen (encodeByte p s) fun t =>
      encSteps n (atEncst (if (t.pi + 1).toNat < t.txlen.toNat then .data else .chk) { t with pi := t.pi + 1 }) :=
  (andThen_fetchByte ..).trans <| congrArg (fetchByte .txpay s.pi.toNat s) <| funext fun p =>
    andThen_atEncst (encodeByte_atEncst p .data s) _ _

theorem encSteps_chk (n : Nat) (s : State) :
    encSteps (n + 1) (atEncst .chk s) = andThen (emitEsc (~~~ s.csacc) s) fun t => encSteps n (atEncst .eof t) :=
  andThen_atEncst (emitAll_atEncst (esc (~~~ s.csacc)) .chk s) _ _

theorem encSteps_eof (s : State) :
    encSteps 1 (atEncst .eof s) = andThen (emit Config.delim s) fun t => .next (encodeEnd t) :=
  andThen_atEncst (emit_atEncst Config.delim .eof s) _ _

/-- The rows after the payload are ENCODE's tail. -/
theorem encSteps_tail (s : State) : encSteps 2 (atEncst .chk s) = encodeTail s := by
  rw [encSteps_chk]
  exact congrArg (andThen _) (funext encSteps_eof)

/-- The data row, once for each of the `n + 1` payload bytes from PI on, is the payload loop. -/
theorem encSteps_payload {n : Nat} (m : Nat) {s : State} (hpi : s.pi.toNat + (n + 1) = s.txlen.toNat) :
    encSteps (m + (n + 1)) (atEncst .data s) =
      andThen (encodePayload (n + 1) s) fun t => encSteps m (atEncst .chk t) := by
  induction n generalizing s with
  | zero =>
    rw [encSteps_data, encodePayload, andThen_fetchByte]
    refine congrArg (fetchByte .txpay s.pi.toNat s) (funext fun b => ?_)
    rw [andThen_assoc]
    refine andThen_congr fun t ht => ?_
    have hlast : ¬ (t.pi + 1).toNat < t.txlen.toNat := by rw [encodeByte_frame ht]; bv_omega
    rw [if_neg hlast]
    rfl
  | succ n ih =>
    rw [← Nat.add_assoc, encSteps_data, encodePayload, andThen_fetchByte]
    refine congrArg (fetchByte .txpay s.pi.toNat s) (funext fun b => ?_)
    rw [andThen_assoc]
    refine andThen_congr fun t ht => ?_
    have hnext : (t.pi + 1).toNat + (n + 1) = t.txlen.toNat := by rw [encodeByte_frame ht]; bv_omega
    rw [if_pos (by omega)]
    exact ih (s := { t with pi := t.pi + 1 }) hnext

/-- From the end of the length row on: the payload, which may be empty, and the tail. -/
theorem encSteps_payload_tail (s : State) :
    encSteps (s.txlen.toNat + 2) (atEncst (if 0 < s.txlen.toNat then .data else .chk) { s with pi := 0 }) =
      andThen (encodePayload s.txlen.toNat { s with pi := 0 }) encodeTail := by
  rw [← funext encSteps_tail, Nat.add_comm]
  cases hlen : s.txlen.toNat with
  | zero => rfl
  | succ n =>
    rw [if_pos n.succ_pos]
    exact encSteps_payload 2 (s := { s with pi := 0 }) ((Nat.zero_add _).trans hlen.symm)

/-- Settles O22: row by row, each step of the operation is a row of the machine. -/
theorem encoderStateMachineAgrees : Obligations.EncoderStateMachineAgrees := by
  intro s hidle
  rw [exec, execEncode, encSteps_idle hidle]
  refine andThen_congr fun s1 h1 => ?_
  rw [encSteps_adr]
  refine andThen_congr fun s2 h2 => ?_
  rw [encSteps_cmd]
  refine andThen_congr fun s3 h3 => ?_
  rw [encSteps_len]
  refine andThen_congr fun s4 h4 => ?_
  have hlen : s4.txlen = s.txlen := by
    rw [encodeByte_frame h4, encodeByte_frame h3, encodeByte_frame h2, (emit_eq_next.1 h1).2]
  rw [← hlen]
  exact encSteps_payload_tail s4

end Sys2Proof.Machine
end

section
/-! ## The tests of `unstuff` (rules R173, R178, R179, R187)

`unstuff` is three stages in a row: the ends, the scan, the logical body; each stage's answer is said once. -/

namespace Sys2Proof.Machine

/-- The three stages, in the order of rule R266. -/
theorem unstuff_eq (raw : List Byte) :
    unstuff raw = if headerOk raw then (unescape raw.tail).bind validate else .error .frameError := by
  rw [unstuff]
  by_cases hmin : raw.length < Config.minLen
  · simp [headerOk, hmin, Nat.not_le.2 hmin]
  by_cases hfirst : raw.head? = some Config.delim
  · by_cases hlast : raw.getLast? = some Config.delim
    · simp only [headerOk, hmin, Nat.not_lt.1 hmin, hfirst, hlast]
      cases unescape raw.tail <;> rfl
    · simp [headerOk, hmin, hfirst, hlast]
  · simp [headerOk, hmin, hfirst]

theorem unstuff_of_header_fails {raw : List Byte} (h : headerOk raw = false) : unstuff raw = .error .frameError := by
  rw [unstuff_eq, h]
  rfl

theorem unstuff_of_scan_error {raw : List Byte} {e : ErrorKind} (h : headerOk raw = true)
    (hscan : unescape raw.tail = .error e) : unstuff raw = .error e := by
  rw [unstuff_eq, if_pos h, hscan]
  rfl

theorem unstuff_of_scanned {raw l : List Byte} (h : headerOk raw = true) (hscan : unescape raw.tail = .ok l) :
    unstuff raw = validate l := by
  rw [unstuff_eq, if_pos h, hscan]
  rfl

/-- `unstuff` accepts what passes the first two stages and the third. -/
theorem unstuff_eq_ok {raw : List Byte} {r : Byte × Byte × Byte × List Byte} (h : unstuff raw = .ok r) :
    headerOk raw = true ∧ ∃ l, unescape raw.tail = .ok l ∧ validate l = .ok r := by
  rw [unstuff_eq] at h
  split at h
  next hheader =>
    cases hscan : unescape raw.tail with
    | error e =>
      rw [hscan] at h
      cases h
    | ok l =>
      rw [hscan] at h
      exact ⟨hheader, l, rfl, h⟩
  · cases h

/-- Step 3 fails: there is no length byte, or it is wrong (rule R178). -/
theorem validate_of_length_ne {l : List Byte} (h : ∀ n : Byte, l[2]? = some n → n.toNat + 4 ≠ l.length) :
    validate l = .error .frameError := by
  match l with
  | [] | [_] | [_, _] => rfl
  | a :: c :: n :: rest => exact if_pos (h n rfl)

/-- Step 3 passes: step 4 decides (rule R179). -/
theorem validate_of_fields {a c n x : Byte} {p : List Byte} (hn : n.toNat = p.length) :
    validate (a :: c :: n :: (p ++ [x])) =
      if x = checksum (a :: c :: n :: p) then .ok (a, c, n, p) else .error .checksumMismatch := by
  have hlen : n.toNat + Config.ovh = (a :: c :: n :: (p ++ [x])).length := by
    rw [hn, Config.ovh, List.length_cons, List.length_cons, List.length_cons, List.length_append, List.length_singleton]
  have hlast : (a :: c :: n :: (p ++ [x])).getLast? = some x := List.getLast?_concat (l := a :: c :: n :: p)
  have hfields : (a :: c :: n :: (p ++ [x])).dropLast = a :: c :: n :: p := List.dropLast_concat (l₁ := a :: c :: n :: p)
  rw [validate, if_neg (not_not.2 hlen), hlast, hfields, List.dropLast_concat]
  by_cases hx : x = checksum (a :: c :: n :: p)
  · rw [if_neg (not_not.2 (congrArg some hx)), if_pos hx]
  · rw [if_pos fun h => hx (Option.some.inj h), if_neg hx]

/-- Every byte sequence is one or the other. -/
theorem length_ne_or_fields (l : List Byte) :
    (∀ n : Byte, l[2]? = some n → n.toNat + 4 ≠ l.length) ∨
      ∃ (a c n : Byte) (p : List Byte) (x : Byte), l = a :: c :: n :: (p ++ [x]) ∧ n.toNat = p.length := by
  match l with
  | [] | [_] | [_, _] => exact .inl nofun
  | a :: c :: n :: rest =>
    rcases eq_or_ne (n.toNat + 4) (a :: c :: n :: rest).length with hlen | hlen
    · rcases List.eq_nil_or_concat rest with rfl | ⟨p, x, rfl⟩
      · simp at hlen
      · exact .inr ⟨a, c, n, p, x, by rw [List.concat_eq_append], by simpa using hlen⟩
    · exact .inl fun m hm => by cases hm; exact hlen

/-- The errors of steps 3 and 4 (rules R178, R179). -/
theorem validate_eq_error_cases {l : List Byte} {e : ErrorKind} (h : validate l = .error e) :
    (e = .frameError ∧ ∀ n : Byte, l[2]? = some n → n.toNat + 4 ≠ l.length) ∨
      (e = .checksumMismatch ∧ ∃ (a c n : Byte) (p : List Byte) (x : Byte), l = a :: c :: n :: (p ++ [x]) ∧
        n.toNat = p.length ∧ x ≠ checksum (a :: c :: n :: p)) := by
  rcases length_ne_or_fields l with hlen | ⟨a, c, n, p, x, rfl, hn⟩
  · rw [validate_of_length_ne hlen] at h
    cases h
    exact .inl ⟨rfl, hlen⟩
  · rw [validate_of_fields hn] at h
    split at h
    · cases h
    next hx =>
      cases h
      exact .inr ⟨rfl, a, c, n, p, x, rfl, hn, hx⟩

theorem logicalFields_of_length {n : Byte} {p : List Byte} (hn : n.toNat = p.length) (a c : Byte) :
    logicalFields a c p = a :: c :: n :: p := by
  rw [logicalFields, ← hn, BitVec.ofNat_toNat, BitVec.setWidth_eq]

/-- Steps 3 and 4 pass on a logical body alone (rule R91). -/
theorem validate_eq_ok {l p : List Byte} {a c n : Byte} (h : validate l = .ok (a, c, n, p)) :
    n.toNat = p.length ∧ l = logicalBody a c p := by
  rcases length_ne_or_fields l with hlen | ⟨a', c', n', p', x, rfl, hn⟩
  · rw [validate_of_length_ne hlen] at h
    cases h
  · rw [validate_of_fields hn] at h
    split at h
    next hx =>
      cases h
      refine ⟨hn, ?_⟩
      rw [logicalBody, logicalFields_of_length hn, hx]
      rfl
    · cases h

theorem validate_logicalBody {a c : Byte} {p : List Byte} (hp : p.length ≤ 255) :
    validate (logicalBody a c p) = .ok (a, c, BitVec.ofNat 8 p.length, p) := by
  have hn : (BitVec.ofNat 8 p.length).toNat = p.length := by rw [BitVec.toNat_ofNat]; omega
  exact (validate_of_fields hn).trans (if_pos rfl)

/-- Settles O28: the ends are delimiters, the scan inverts the escaping, and the tests of steps 3 and 4 pass on a logical
body. -/
theorem unstuffInvertsStuff : Obligations.UnstuffInvertsStuff := fun a c p hp =>
  (unstuff_of_scanned (headerOk_stuff a c p) (unescape_tail_stuff a c p)).trans (validate_logicalBody hp)

end Sys2Proof.Machine
end

section
/-! ## Where the scan stops (rules R104, R174 to R176, R189)

A body is read symbol by symbol. The scan errs at the first symbol that fails: a delimiter, or a marker whose follower is
no code. -/

namespace Sys2Proof.Machine

theorem unescape_marker (f : Byte) (rest : List Byte) :
    unescape (Config.esc :: f :: rest) =
      (unesc f).elim (.error .unknownEscapeCode) fun raw => (unescape rest).map (List.cons raw) := by
  rw [unescape, if_neg (by decide), if_pos rfl]
  cases unesc f with
  | none => rfl
  | some raw => cases unescape rest <;> rfl

theorem unescape_literal {b : Byte} (hdelim : b ≠ Config.delim) (hesc : b ≠ Config.esc) (f : Byte) (rest : List Byte) :
    unescape (b :: f :: rest) = (unescape (f :: rest)).map (List.cons b) := by
  rw [unescape, if_neg hdelim, if_neg hesc]
  cases unescape (f :: rest) <;> rfl

theorem map_cons_eq_error {r : Except ErrorKind (List Byte)} {b : Byte} {e : ErrorKind}
    (h : r.map (List.cons b) = .error e) : r = .error e := by
  cases r with
  | error x => exact h
  | ok l => cases h

theorem map_cons_eq_ok {r : Except ErrorKind (List Byte)} {b : Byte} {l : List Byte}
    (h : r.map (List.cons b) = .ok l) : ∃ m, r = .ok m ∧ l = b :: m := by
  cases r with
  | error x => cases h
  | ok m =>
    cases h
    exact ⟨m, rfl, rfl⟩

/-- The scan's recursion: it ends before the last byte or at a symbol that fails, and goes on behind a literal or a pair. -/
theorem scan_induction {motive : List Byte → Prop} (nil : motive []) (last : ∀ x, motive [x])
    (delim : ∀ f rest, motive (Config.delim :: f :: rest))
    (marker : ∀ f rest, unesc f = none → motive (Config.esc :: f :: rest))
    (pair : ∀ f raw rest, unesc f = some raw → motive rest → motive (Config.esc :: f :: rest))
    (literal : ∀ b f rest, b ≠ Config.delim → b ≠ Config.esc → motive (f :: rest) → motive (b :: f :: rest))
    (bs : List Byte) : motive bs := by
  induction bs using unescape.induct with
  | case1 => exact nil
  | case2 x => exact last x
  | case3 f rest => exact delim f rest
  | case4 f rest hraw _ => exact marker f rest hraw
  | case5 f rest raw hraw _ _ _ ih | case6 f rest raw hraw _ _ _ ih => exact pair f raw rest hraw ih
  | case7 b f rest hdelim hesc _ _ ih | case8 b f rest hdelim hesc _ _ ih => exact literal b f rest hdelim hesc ih

/-- Whole literals and escape pairs, and the logical bytes they stand for (rules R95 to R100). -/
inductive Scanned : List Byte → List Byte → Prop
  | nil : Scanned [] []
  | literal {b : Byte} {pre l : List Byte} (hdelim : b ≠ Config.delim) (hesc : b ≠ Config.esc) (h : Scanned pre l) :
    Scanned (b :: pre) (b :: l)
  | pair {f raw : Byte} {pre l : List Byte} (hraw : unesc f = some raw) (h : Scanned pre l) :
    Scanned (Config.esc :: f :: pre) (raw :: l)

/-- The bytes read at a symbol that fails, and its error (rules R175, R176). -/
inductive FailingSymbol : List Byte → ErrorKind → Prop
  | delim : FailingSymbol [Config.delim] .frameError
  | marker {f : Byte} (h : unesc f = none) : FailingSymbol [Config.esc, f] .unknownEscapeCode

theorem Scanned.length_le {pre l : List Byte} (h : Scanned pre l) : l.length ≤ pre.length := by
  induction h with
  | nil => exact Nat.le_refl 0
  | literal _ _ _ ih => exact Nat.succ_le_succ ih
  | pair _ _ ih => exact (Nat.succ_le_succ ih).trans (Nat.le_succ _)

/-- An error of the scan: whole symbols, then one that fails, which does not begin with the last byte. -/
theorem unescape_eq_error {bs : List Byte} {e : ErrorKind} (h : unescape bs = .error e) :
    ∃ pre l sym rest, bs = pre ++ (sym ++ rest) ∧ Scanned pre l ∧ FailingSymbol sym e ∧
      pre.length + 2 ≤ bs.length := by
  induction bs using scan_induction with
  | nil | last x => cases h
  | delim f rest =>
    cases h
    exact ⟨[], [], [Config.delim], f :: rest, rfl, .nil, .delim, by simp⟩
  | marker f rest hraw =>
    rw [unescape_marker, hraw] at h
    cases h
    exact ⟨[], [], [Config.esc, f], rest, rfl, .nil, .marker hraw, by simp⟩
  | pair f raw rest hraw ih =>
    rw [unescape_marker, hraw] at h
    obtain ⟨pre, l, sym, left, rfl, hpre, hsym, hlen⟩ := ih (map_cons_eq_error h)
    exact ⟨_, _, sym, left, rfl, .pair hraw hpre, hsym, Nat.add_le_add_right hlen 2⟩
  | literal b f rest hdelim hesc ih =>
    rw [unescape_literal hdelim hesc] at h
    obtain ⟨pre, l, sym, left, hbs, hpre, hsym, hlen⟩ := ih (map_cons_eq_error h)
    exact ⟨_, _, sym, left, by rw [hbs]; rfl, .literal hdelim hesc hpre, hsym, Nat.add_le_add_right hlen 1⟩

theorem FailingSymbol.kind {sym : List Byte} {e : ErrorKind} (h : FailingSymbol sym e) :
    e = .frameError ∨ e = .unknownEscapeCode := by
  cases h with
  | delim => exact .inl rfl
  | marker => exact .inr rfl

theorem FailingSymbol.length_pos {sym : List Byte} {e : ErrorKind} (h : FailingSymbol sym e) : 0 < sym.length := by
  cases h <;> exact Nat.succ_pos _

/-- The scan errs with two kinds only (rules R175, R176). -/
theorem unescape_error_kind {bs : List Byte} {e : ErrorKind} (h : unescape bs = .error e) :
    e = .frameError ∨ e = .unknownEscapeCode := by
  obtain ⟨_, _, _, _, _, _, hsym, _⟩ := unescape_eq_error h
  exact hsym.kind

/-- The scan over the first body bytes goes well: whole symbols, and perhaps a marker not judged yet. -/
theorem scanPrefix_eq_ok {bs l : List Byte} (h : scanPrefix bs = .ok l) :
    ∃ pre m left, bs = pre ++ left ∧ Scanned pre m ∧ (left = [] ∨ left = [Config.esc]) := by
  induction bs using scan_induction generalizing l with
  | nil => exact ⟨[], [], [], rfl, .nil, .inl rfl⟩
  | last x =>
    rcases eq_or_ne x Config.delim with rfl | hdelim
    · cases h
    rcases eq_or_ne x Config.esc with rfl | hesc
    · exact ⟨[], [], _, rfl, .nil, .inr rfl⟩
    · exact ⟨[x], [x], [], rfl, .literal hdelim hesc .nil, .inl rfl⟩
  | delim f rest => cases h
  | marker f rest hraw =>
    rw [scanPrefix, List.cons_append, List.cons_append, unescape_marker, hraw] at h
    cases h
  | pair f raw rest hraw ih =>
    rw [scanPrefix, List.cons_append, List.cons_append, unescape_marker, hraw] at h
    obtain ⟨m, hm, -⟩ := map_cons_eq_ok h
    obtain ⟨pre, k, left, rfl, hpre, hleft⟩ := ih hm
    exact ⟨_, _, left, rfl, .pair hraw hpre, hleft⟩
  | literal b f rest hdelim hesc ih =>
    rw [scanPrefix, List.cons_append, List.cons_append, unescape_literal hdelim hesc] at h
    obtain ⟨m, hm, -⟩ := map_cons_eq_ok h
    obtain ⟨pre, k, left, hbs, hpre, hleft⟩ := ih hm
    exact ⟨_, _, left, by rw [hbs]; rfl, .literal hdelim hesc hpre, hleft⟩

/-- An error of the scan over the first body bytes: the symbol that fails lies in them. -/
theorem scanPrefix_eq_error {bs : List Byte} {e : ErrorKind} (h : scanPrefix bs = .error e) :
    ∃ pre l sym rest, bs = pre ++ (sym ++ rest) ∧ Scanned pre l ∧ FailingSymbol sym e := by
  obtain ⟨pre, l, sym, rest, hbs, hpre, hsym, -⟩ := unescape_eq_error h
  rcases List.eq_nil_or_concat rest with rfl | ⟨rest, x, rfl⟩
  · have hlast := congrArg List.getLast? hbs
    cases hsym with
    | delim => simp [Config.delim] at hlast
    | @marker f hf =>
      obtain rfl : 0x31#8 = f := by simpa using hlast
      cases hf
  · rw [List.concat_eq_append, ← List.append_assoc, ← List.append_assoc, List.append_assoc pre] at hbs
    exact ⟨pre, l, sym, rest, (List.append_inj' hbs rfl).1, hpre, hsym⟩

/-- A successful scan yields no more logical bytes than there are wire bytes. -/
theorem length_le_of_unescape {bs l : List Byte} (h : unescape bs = .ok l) : l.length ≤ bs.length := by
  induction bs using scan_induction generalizing l with
  | nil | last x => cases h; exact Nat.zero_le _
  | delim f rest => cases h
  | marker f rest hraw =>
    rw [unescape_marker, hraw] at h
    cases h
  | pair f raw rest hraw ih =>
    rw [unescape_marker, hraw] at h
    obtain ⟨m, hm, rfl⟩ := map_cons_eq_ok h
    exact Nat.succ_le_succ ((ih hm).trans (Nat.le_succ _))
  | literal b f rest hdelim hesc ih =>
    rw [unescape_literal hdelim hesc] at h
    obtain ⟨m, hm, rfl⟩ := map_cons_eq_ok h
    exact Nat.succ_le_succ (ih hm)

/-- A marker with a follower that is no code is an error, wherever the scan meets or passes it (rule R189). -/
theorem unescape_of_bad_follower {bs l : List Byte} {i : Nat} {f : Byte} (hi : bs[i]? = some Config.esc)
    (hf : bs[i + 1]? = some f) (hcode : unesc f = none) : unescape bs ≠ .ok l := by
  intro h
  induction bs using scan_induction generalizing l i with
  | nil => cases hi
  | last x => simp at hf
  | delim g rest => cases h
  | marker g rest hraw =>
    rw [unescape_marker, hraw] at h
    cases h
  | pair g raw rest hraw ih =>
    rw [unescape_marker, hraw] at h
    obtain ⟨m, hm, -⟩ := map_cons_eq_ok h
    match i with
    | 0 =>
      cases hf
      rw [hraw] at hcode
      cases hcode
    | 1 =>
      cases hi
      cases hraw
    | i + 2 => exact ih hi hf hm
  | literal b g rest hdelim hesc ih =>
    rw [unescape_literal hdelim hesc] at h
    obtain ⟨m, hm, -⟩ := map_cons_eq_ok h
    match i with
    | 0 => exact hesc (Option.some.inj hi)
    | i + 1 => exact ih hi hf hm

/-- Settles O26: each stage's answer, the stages before it passed; the kinds are the scan's and those of steps 3 and 4. -/
theorem decodeTestsInFixedOrder : Obligations.DecodeTestsInFixedOrder := by
  intro raw
  refine ⟨unstuff_of_header_fails, fun hheader e => unstuff_of_scan_error hheader, fun hheader l hscan => ?_,
    fun e h => ?_⟩
  · have hstages := unstuff_of_scanned hheader hscan
    refine ⟨fun n hn hlen => hstages.trans (validate_of_length_ne fun m hm => ?_),
      fun hshort => hstages.trans (validate_of_length_ne fun m hm => ?_), ?_⟩
    · cases hn.symm.trans hm
      exact hlen
    · omega
    · rintro a c n p x rfl hn
      exact hstages.trans (validate_of_fields hn)
  · cases hheader : headerOk raw with
    | false =>
      cases (unstuff_of_header_fails hheader).symm.trans h
      exact .inl rfl
    | true =>
      cases hscan : unescape raw.tail with
      | error x =>
        cases (unstuff_of_scan_error hheader hscan).symm.trans h
        exact (unescape_error_kind hscan).imp_right .inl
      | ok l =>
        rcases validate_eq_error_cases ((unstuff_of_scanned hheader hscan).symm.trans h) with ⟨rfl, -⟩ | ⟨rfl, -⟩
        · exact .inl rfl
        · exact .inr (.inr rfl)

end Sys2Proof.Machine
end

section
/-! ## One flipped bit on the wire (rules R132 (e), R188)

Whatever the flip does to the symbols around it (a literal becomes another literal or a marker, a pair falls apart or gets
another code), the scan errs or the sum of the logical bytes changes; and steps 3 and 4 pass on one sum only. -/

namespace Sys2Proof.Machine

/-- The sum of a logical body (rule R132 (d)). -/
theorem sumBytes_logicalBody (a c : Byte) (p : List Byte) : sumBytes (logicalBody a c p) = 0xFF#8 :=
  eq_checksum_iff.1 rfl

theorem sumBytes_of_unstuff_eq_ok {raw : List Byte} {r : Byte × Byte × Byte × List Byte} (h : unstuff raw = .ok r) :
    ∃ l, unescape raw.tail = .ok l ∧ sumBytes l = 0xFF#8 := by
  obtain ⟨-, l, hscan, hvalid⟩ := unstuff_eq_ok h
  obtain ⟨a, c, n, p⟩ := r
  obtain ⟨-, rfl⟩ := validate_eq_ok hvalid
  exact ⟨_, hscan, sumBytes_logicalBody a c p⟩

/-- A code and the byte it stands for differ by 20 (rule R95). -/
theorem code_eq_xor_of_unesc {f b : Byte} (h : unesc f = some b) : f = b ^^^ 0x20#8 := by
  rcases unesc_cases h with ⟨rfl, rfl⟩ | ⟨rfl, rfl⟩ | ⟨rfl, rfl⟩ | ⟨rfl, rfl⟩ <;> rfl

theorem unesc_inj {f g b : Byte} (hf : unesc f = some b) (hg : unesc g = some b) : f = g :=
  (code_eq_xor_of_unesc hf).trans (code_eq_xor_of_unesc hg).symm

/-- A byte one bit off the marker, and a code, never add up to the byte the code stands for. -/
theorem ne_flipped_marker_add_code {f b : Byte} {k : Nat} (hk : k < 8) (hf : unesc f = some b) :
    b ≠ flipBit Config.esc k + f := by
  have hcode : ∀ k < 8, 0x11#8 ≠ flipBit Config.esc k + 0x31#8 ∧ 0x13#8 ≠ flipBit Config.esc k + 0x33#8 ∧
    0x7D#8 ≠ flipBit Config.esc k + 0x5D#8 ∧ 0x7E#8 ≠ flipBit Config.esc k + 0x5E#8 := by decide
  obtain ⟨h11, h13, h7d, h7e⟩ := hcode k hk
  rcases unesc_cases hf with ⟨rfl, rfl⟩ | ⟨rfl, rfl⟩ | ⟨rfl, rfl⟩ | ⟨rfl, rfl⟩
  exacts [h11, h13, h7d, h7e]

/-- A byte one bit off the marker is a literal. -/
theorem flipped_marker_is_literal {k : Nat} (hk : k < 8) :
    flipBit Config.esc k ≠ Config.delim ∧ flipBit Config.esc k ≠ Config.esc := by
  have hbyte : ∀ k < 8, flipBit Config.esc k ≠ Config.delim := by decide
  exact ⟨hbyte k hk, flipBit_ne_self _ hk⟩

theorem code_is_literal {f b : Byte} (hf : unesc f = some b) : f ≠ Config.delim ∧ f ≠ Config.esc := by
  rcases unesc_cases hf with ⟨rfl, -⟩ | ⟨rfl, -⟩ | ⟨rfl, -⟩ | ⟨rfl, -⟩ <;> decide

/-- Where an escaped body begins with a code, it is a literal. -/
theorem escapeAll_front_code {m rest : List Byte} {y raw : Byte} (h : escapeAll m ++ [Config.delim] = y :: rest)
    (hy : unesc y = some raw) : ∃ m', m = y :: m' ∧ rest = escapeAll m' ++ [Config.delim] := by
  obtain ⟨hdelim, hesc⟩ := code_is_literal hy
  match m with
  | [] =>
    cases h
    exact absurd rfl hdelim
  | b :: m' =>
    rw [escapeAll_cons] at h
    rcases esc_cases b with ⟨hb, -⟩ | ⟨f, hb, -⟩
    · rw [hb] at h
      cases h
      exact ⟨m', rfl, rfl⟩
    · rw [hb] at h
      cases h
      exact absurd rfl hesc

/-- The scan over a byte that stands for itself, before an escaped body. -/
theorem unescape_literal_escapeAll {b : Byte} (hdelim : b ≠ Config.delim) (hesc : b ≠ Config.esc) (m : List Byte)
    (x : Byte) : unescape (b :: (escapeAll m ++ [x])) = .ok (b :: m) := by
  obtain ⟨y, rest, h⟩ : ∃ y rest, escapeAll m ++ [x] = y :: rest := List.exists_cons_of_ne_nil (by simp)
  rw [h, unescape_literal hdelim hesc, ← h, unescape_escapeAll]
  rfl

/-- A flip in an unescaped byte: another literal, or a marker that takes the literal behind it for a code. -/
theorem sum_ne_of_flipped_literal {b : Byte} {k : Nat} {m l : List Byte} (hk : k < 8)
    (h : unescape (flipBit b k :: (escapeAll m ++ [Config.delim])) = .ok l) : sumBytes l ≠ b + sumBytes m := by
  obtain ⟨y, rest, hfront⟩ : ∃ y rest, escapeAll m ++ [Config.delim] = y :: rest :=
    List.exists_cons_of_ne_nil (by simp)
  rcases eq_or_ne (flipBit b k) Config.delim with hdelim | hdelim
  · rw [hdelim, hfront] at h
    cases h
  rcases eq_or_ne (flipBit b k) Config.esc with hesc | hesc
  · rw [hesc, hfront, unescape_marker] at h
    cases hraw : unesc y with
    | none =>
      rw [hraw] at h
      cases h
    | some raw =>
      obtain ⟨m, rfl, rfl⟩ := escapeAll_front_code hfront hraw
      rw [hraw, Option.elim_some, unescape_escapeAll] at h
      cases h
      rw [sumBytes_cons, sumBytes_cons, ← BitVec.add_assoc, ← flipBit_flipBit b k, hesc]
      exact fun heq => ne_flipped_marker_add_code hk hraw (add_right_cancel heq)
  · rw [unescape_literal_escapeAll hdelim hesc] at h
    cases h
    exact fun heq => flipBit_ne_self b hk (add_right_cancel heq)

/-- A flip in a marker: its pair becomes two literals. -/
theorem sum_ne_of_flipped_marker {f b : Byte} {k : Nat} {m l : List Byte} (hk : k < 8) (hf : unesc f = some b)
    (h : unescape (flipBit Config.esc k :: f :: (escapeAll m ++ [Config.delim])) = .ok l) :
    sumBytes l ≠ b + sumBytes m := by
  obtain ⟨hdelim, hesc⟩ := flipped_marker_is_literal hk
  obtain ⟨hfdelim, hfesc⟩ := code_is_literal hf
  rw [unescape_literal hdelim hesc, unescape_literal_escapeAll hfdelim hfesc] at h
  cases h
  rw [sumBytes_cons, sumBytes_cons, ← BitVec.add_assoc]
  exact fun heq => ne_flipped_marker_add_code hk hf (add_right_cancel heq).symm

/-- A flip in a follower: no code, or the code of another byte. -/
theorem sum_ne_of_flipped_follower {f b : Byte} {k : Nat} {m l : List Byte} (hk : k < 8) (hf : unesc f = some b)
    (h : unescape (Config.esc :: flipBit f k :: (escapeAll m ++ [Config.delim])) = .ok l) :
    sumBytes l ≠ b + sumBytes m := by
  rw [unescape_marker] at h
  cases hraw : unesc (flipBit f k) with
  | none =>
    rw [hraw] at h
    cases h
  | some raw =>
    rw [hraw, Option.elim_some, unescape_escapeAll] at h
    cases h
    intro heq
    obtain rfl := add_right_cancel heq
    exact flipBit_ne_self f hk (unesc_inj hraw hf)

/-- One flipped bit anywhere in an escaped body: the scan errs, or the sum of the logical bytes is another. -/
theorem sum_ne_of_flipped {l r : List Byte} {j k : Nat} {w : Byte} (hk : k < 8) (hw : (escapeAll l)[j]? = some w)
    (h : unescape ((escapeAll l).set j (flipBit w k) ++ [Config.delim]) = .ok r) : sumBytes r ≠ sumBytes l := by
  induction l generalizing j r with
  | nil => cases hw
  | cons b l ih =>
    rw [escapeAll_cons] at hw h
    rw [sumBytes_cons]
    rcases Nat.lt_or_ge j (esc b).length with hj | hj
    · rw [List.getElem?_append_left hj] at hw
      rw [List.set_append_left _ _ hj] at h
      rcases esc_cases b with ⟨hb, -⟩ | ⟨f, hb, hf, -⟩
      · rw [hb] at hw h
        match j with
        | 0 =>
          cases hw
          exact sum_ne_of_flipped_literal hk h
      · rw [hb] at hw h
        match j with
        | 0 =>
          cases hw
          exact sum_ne_of_flipped_marker hk hf h
        | 1 =>
          cases hw
          exact sum_ne_of_flipped_follower hk hf h
    · rw [List.getElem?_append_right hj] at hw
      obtain ⟨x, rest, hfront⟩ : ∃ x rest,
          (escapeAll l).set (j - (esc b).length) (flipBit w k) ++ [Config.delim] = x :: rest :=
        List.exists_cons_of_ne_nil (by simp)
      rw [List.set_append_right _ _ hj, List.append_assoc, hfront, unescape_esc, ← hfront] at h
      obtain ⟨m, hm, rfl⟩ := map_cons_eq_ok h
      exact fun heq => ih hw hm (add_left_cancel heq)

/-- A flip between the delimiters is a flip in the escaped body. -/
theorem tail_set_stuff {a c : Byte} {p : List Byte} {j : Nat} (hj : j < (escapeAll (logicalBody a c p)).length)
    (v : Byte) : ((stuff a c p).set (j + 1) v).tail = (escapeAll (logicalBody a c p)).set j v ++ [Config.delim] :=
  List.set_append_left _ _ hj

/-- The scan over an escaped body, and on from there. -/
theorem unescape_escapeAll_append (l : List Byte) (x : Byte) (rest : List Byte) :
    unescape (escapeAll l ++ x :: rest) = (unescape (x :: rest)).map (l ++ ·) := by
  induction l with
  | nil =>
    rw [escapeAll_nil, List.nil_append]
    cases unescape (x :: rest) <;> rfl
  | cons b l ih =>
    obtain ⟨y, ys, h⟩ : ∃ y ys, escapeAll l ++ x :: rest = y :: ys := List.exists_cons_of_ne_nil (by simp)
    rw [escapeAll_cons, List.append_assoc, h, unescape_esc, ← h, ih]
    cases unescape (x :: rest) <;> rfl

/-- A frame around any bytes passes step 1, if it is long enough (rule R173). -/
theorem headerOk_framed {body : List Byte} (h : 4 ≤ body.length) :
    headerOk (Config.delim :: (body ++ [Config.delim])) = true := by
  have hlen : Config.minLen ≤ (Config.delim :: (body ++ [Config.delim])).length := by
    rw [List.length_cons, List.length_append, List.length_singleton, Config.minLen]
    omega
  rw [headerOk, decide_eq_true hlen, ← List.cons_append, List.getLast?_concat]
  rfl

/-- A logical body with one byte exchanged for another: a wrong length if that byte is the length, else a wrong sum. -/
theorem validate_of_changed_byte {a c b b' : Byte} {p pre post : List Byte} (hp : p.length ≤ 255)
    (hbody : logicalBody a c p = pre ++ b :: post) (hb : b' ≠ b) :
    validate (pre ++ b' :: post) = .error (if pre.length = 2 then .frameError else .checksumMismatch) := by
  have hlen : (pre ++ b' :: post).length = p.length + 4 := by
    rw [← length_logicalBody a c p, hbody, List.length_append, List.length_append]
    rfl
  have hn : (pre ++ b :: post)[2]? = some (BitVec.ofNat 8 p.length) := by rw [← hbody]; rfl
  have hnat : (BitVec.ofNat 8 p.length).toNat = p.length := by rw [BitVec.toNat_ofNat]; omega
  by_cases hpre : pre.length = 2
  · rw [if_pos hpre]
    refine validate_of_length_ne fun n hn' hmatch => hb ?_
    have h2 (x : Byte) : (pre ++ x :: post)[2]? = some x := by rw [← hpre]; simp
    rw [h2, Option.some.injEq] at hn hn'
    rw [hn', hn]
    apply BitVec.eq_of_toNat_eq
    omega
  · rw [if_neg hpre]
    have hsame : (pre ++ b' :: post)[2]? = (pre ++ b :: post)[2]? := by
      rcases Nat.lt_or_ge 2 pre.length with h | h
      · rw [List.getElem?_append_left h, List.getElem?_append_left h]
      · obtain ⟨i, hi⟩ : ∃ i, 2 - pre.length = i + 1 := ⟨1 - pre.length, by omega⟩
        rw [List.getElem?_append_right h, List.getElem?_append_right h, hi, List.getElem?_cons_succ,
          List.getElem?_cons_succ]
    have hsum : sumBytes (pre ++ b' :: post) ≠ 0xFF#8 := by
      rw [← sumBytes_logicalBody a c p, hbody, sumBytes_middle, sumBytes_middle]
      exact fun heq => hb (add_right_cancel heq)
    rcases length_ne_or_fields (pre ++ b' :: post) with h | ⟨a', c', n', p', x, hfields, hn'⟩
    · exact absurd (by rw [hnat, hlen]) (h _ (hsame.trans hn))
    · rw [hfields] at hsum ⊢
      exact (validate_of_fields hn').trans (if_neg fun hx => hsum (eq_checksum_iff.1 hx))

/-- Settles O30: what decodes has the sum FF, which one flip changes; and a literal flipped to a literal changes one logical
byte. -/
theorem singleBitFlipNeverDecodes : Obligations.SingleBitFlipNeverDecodes := by
  refine ⟨fun a c p i k b hp hk hpos hi hb => ?_, fun a c p pre post b k hp hk hbody hspecial hesc hdelim => ?_⟩
  · rcases stuff_index_cases a c p (Nat.lt_of_succ_lt hi) with ⟨rfl, -⟩ | ⟨j, rfl, -, hj, hget⟩ | ⟨hlast, -⟩
    · cases hpos
    · cases hflip : unstuff ((stuff a c p).set (j + 1) (flipBit b k)) with
      | error e => exact ⟨e, rfl⟩
      | ok r =>
        obtain ⟨l, hscan, hsum⟩ := sumBytes_of_unstuff_eq_ok hflip
        rw [tail_set_stuff hj] at hscan
        exact absurd (hsum.trans (sumBytes_logicalBody a c p).symm)
          (sum_ne_of_flipped hk (hget.symm.trans hb) hscan)
    · omega
  · have hscan : unescape (escapeAll pre ++ flipBit b k :: (escapeAll post ++ [Config.delim])) =
        .ok (pre ++ flipBit b k :: post) := by
      rw [unescape_escapeAll_append, unescape_literal_escapeAll hdelim hesc]
      rfl
    have hlen : 4 ≤ (escapeAll pre ++ flipBit b k :: escapeAll post).length := by
      have hbodylen := congrArg List.length hbody
      simp only [length_logicalBody, List.length_append, List.length_cons] at hbodylen
      simp only [List.length_append, List.length_cons, length_escapeAll]
      omega
    have hheader := headerOk_framed hlen
    rw [List.append_assoc, List.cons_append] at hheader
    exact (unstuff_of_scanned hheader hscan).trans (validate_of_changed_byte hp hbody (flipBit_ne_self b hk))

end Sys2Proof.Machine
end

section
/-! ## DECODE's preconditions, and an accepted buffer (rules R170, R171, R180, R185) -/

namespace Sys2Proof

theorem decodeCmd_of_decode {w : Word} (h : opcodeOf w = 0x02#8) : decodeCmd w = .decode := by
  rw [decodeCmd, h]
  rfl

end Sys2Proof

namespace Sys2Proof.Machine

theorem decodeRefused_iff {s : State} : decodeRefused s = true ↔ s.rxarmed = true ∨ 522 < s.rxlen.toNat := by
  rw [decodeRefused, Bool.or_eq_true, decide_eq_true_eq, Config.rxCap]

theorem execDecode_of_refused {s : State} (h : decodeRefused s = true) : execDecode s = .next (raise .illegalOp s) :=
  if_pos h

/-- Settles O23: the error between operations is ERR alone; every other outcome of DECODE has another ERR. -/
theorem decodeRefusedPreconditions : Obligations.DecodeRefusedPreconditions := by
  refine ⟨fun s hidle h => ?_, fun s t harmed hlen h => ?_⟩
  · rw [exec, execDecode_of_refused (decodeRefused_iff.2 h), raise_of_codecIdle hidle]
  · rcases execDecode_cases h with ⟨hrefused, -⟩ | ⟨-, u, -, ⟨e, he, rfl⟩ | ⟨a, c, n, rfl⟩⟩
    · rcases decodeRefused_iff.1 hrefused with h | h
      · cases harmed.symm.trans h
      · omega
    · change e ≠ .illegalOp
      rcases he with rfl | rfl | rfl <;> decide
    · exact nofun

/-- Settles O24: what `unstuff` accepts is the escaped form of a logical body. -/
theorem decodeOfAcceptedBuffer : Obligations.DecodeOfAcceptedBuffer := by
  refine ⟨fun _ => decodeCmd_of_decode, fun s raw a c n p harmed hcap hraw hok => ?_⟩
  obtain ⟨hheader, l, hscan, hvalid⟩ := unstuff_eq_ok hok
  obtain ⟨hn, rfl⟩ := validate_eq_ok hvalid
  have hp : p.length ≤ 255 := by have := n.isLt; omega
  have hlen : BitVec.ofNat 8 p.length = n := by rw [← hn, BitVec.ofNat_toNat, BitVec.setWidth_eq]
  refine ⟨hn.symm, decodeResult a c p s, exec_decode_of_logicalBody harmed hcap hraw hheader hscan hp, ?_, fun i => ?_⟩
  · rw [decodeResult, hlen]
    rfl
  · have hread := Memory.read_writeRange (logicalBody a c p) s.rxb 0 i
    simp only [Nat.zero_le, true_and, Nat.zero_add, Nat.sub_zero, length_logicalBody] at hread
    exact hread

end Sys2Proof.Machine
end

section
/-! ## One scanning step, by what stands at RD (rules R104, R174 to R176, R184) -/

namespace Sys2Proof.Machine

/-- A byte of a buffer that holds values up to `k`. -/
theorem Memory.exists_read_of_readRange {m : Memory} {k i : Nat} {raw : List Byte}
    (h : Memory.readRange m 0 k = some raw) (hi : i < k) : ∃ b, Memory.read m i = some b ∧ raw[i]? = some b := by
  obtain ⟨hlen, hread⟩ := Memory.readRange_eq_some.1 h
  have hget : raw[i]? = some (raw[i]'(hlen ▸ hi)) := List.getElem?_eq_getElem _
  exact ⟨_, by rw [← hget, ← hread i hi, Nat.zero_add], hget⟩

theorem fetchByte_of_unwritten {sp : Space} {i : Nat} {s : State} (k : Byte → Res) (h : i < sp.size)
    (hr : Memory.read (s.mem sp) i = none) : fetchByte sp i s k = .fault .unwrittenByte := by
  rw [fetchByte, if_pos h, hr]

theorem scanSymbol_of_unwritten {s : State} (hlt : s.rd.toNat < 522) (hb : Memory.read s.rxb s.rd.toNat = none) :
    scanSymbol s = .fault .unwrittenByte :=
  fetchByte_of_unwritten (sp := .rxb) _ hlt hb

/-- A cursor inside RXB does not wrap. -/
theorem toNat_add_one {x : Word} (h : x.toNat < 522) : (x + 1).toNat = x.toNat + 1 := by
  bv_omega

/-- A marker at RD: its follower decides. -/
theorem scanSymbol_of_marker_read {s : State} {f : Byte} (hlt : s.rd.toNat + 1 < 522)
    (hb : Memory.read s.rxb s.rd.toNat = some Config.esc) (hf : Memory.read s.rxb (s.rd.toNat + 1) = some f) :
    scanSymbol s = (unesc f).elim (.next (raiseDecode .unknownEscapeCode { s with rd := s.rd + 1 }))
      fun raw => scanPut raw { s with rd := s.rd + 1 } := by
  have hrd : (s.rd + 1).toNat = s.rd.toNat + 1 := toNat_add_one (Nat.lt_of_succ_lt hlt)
  rw [← hrd] at hf
  exact (scanSymbol_of_marker (Nat.lt_of_succ_lt hlt) hb).trans
    (scanFollower_of_read (s := { s with rd := s.rd + 1 }) (hrd.trans_lt hlt) hf)

theorem scanSymbol_of_marker_unwritten {s : State} (hlt : s.rd.toNat + 1 < 522)
    (hb : Memory.read s.rxb s.rd.toNat = some Config.esc) (hf : Memory.read s.rxb (s.rd.toNat + 1) = none) :
    scanSymbol s = .fault .unwrittenByte := by
  have hrd : (s.rd + 1).toNat = s.rd.toNat + 1 := toNat_add_one (Nat.lt_of_succ_lt hlt)
  rw [← hrd] at hf
  exact (scanSymbol_of_marker (Nat.lt_of_succ_lt hlt) hb).trans
    (fetchByte_of_unwritten (sp := .rxb) (s := { s with rd := s.rd + 1 }) _ (hrd.trans_lt hlt) hf)

/-- The byte a symbol writes lies below the bytes not read yet (rules R80, R184). -/
theorem put_keeps_unread {s t : State} {raw : Byte} {rd : Word} (hwr : s.wr.toNat < s.rd.toNat)
    (hcap : s.rd.toNat < 522) (hlt : s.rd.toNat < rd.toNat) (hend : rd.toNat + 1 ≤ s.rxlen.toNat)
    (ht : t = { s with rxb := Memory.write s.rxb s.wr.toNat raw, wr := s.wr + 1, rd := rd }) :
    t.wr.toNat = s.wr.toNat + 1 ∧ t.wr.toNat < t.rd.toNat ∧ t.rd.toNat + 1 ≤ t.rxlen.toNat ∧ t.rxlen = s.rxlen ∧
      ∀ i : Nat, t.rd.toNat ≤ i → Memory.read t.rxb i = Memory.read s.rxb i := by
  have hwr1 : (s.wr + 1).toNat = s.wr.toNat + 1 := toNat_add_one (hwr.trans hcap)
  subst ht
  refine ⟨hwr1, ?_, hend, rfl, fun i hi => Memory.read_write_other _ _ ?_⟩
  · simp only [hwr1]
    omega
  · change rd.toNat ≤ i at hi
    omega

/-- Settles O33: an error leaves the scan; a literal moves RD by one and a pair by two, and a pair does not end at the
closing delimiter, which is no code. -/
theorem scanCursorsNeverCross : Obligations.ScanCursorsNeverCross := by
  intro s hs hcursors hroom hcap hreadable hlast
  obtain ⟨raw, hraw⟩ := Option.ne_none_iff_exists'.1 hreadable
  have hwr : s.wr.toNat < 522 := by omega
  have hrd : s.rd.toNat < 522 := by omega
  have hrd1 : (s.rd + 1).toNat = s.rd.toNat + 1 := toNat_add_one hrd
  obtain ⟨b, hb, -⟩ := Memory.exists_read_of_readRange hraw (i := s.rd.toNat) (by omega)
  obtain ⟨f, hf, -⟩ := Memory.exists_read_of_readRange hraw (i := s.rd.toNat + 1) (by omega)
  rcases eq_or_ne b Config.delim with rfl | hdelim
  · exact ⟨_, scanSymbol_of_delim hrd hb, nofun⟩
  rcases eq_or_ne b Config.esc with rfl | hesc
  · have hstep := scanSymbol_of_marker_read (by omega) hb hf
    cases hcode : unesc f with
    | none =>
      rw [hcode] at hstep
      exact ⟨_, hstep, nofun⟩
    | some code =>
      have hne : s.rd.toNat + 1 ≠ s.rxlen.toNat - 1 := fun h => by
        rw [← h, hf] at hlast
        exact (code_is_literal hcode).1 (Option.some.inj hlast)
      have hrd2 : (s.rd + 1 + 1).toNat = s.rd.toNat + 2 := (toNat_add_one (by omega)).trans (congrArg (· + 1) hrd1)
      rw [hcode, Option.elim_some, scanPut_of_lt (s := { s with rd := s.rd + 1 }) hwr] at hstep
      exact ⟨_, hstep, fun _ => put_keeps_unread (rd := s.rd + 1 + 1) hcursors hrd (by omega) (by omega) rfl⟩
  · exact ⟨_, (scanSymbol_of_literal hrd hb hdelim hesc).trans (scanPut_of_lt hwr),
      fun _ => put_keeps_unread hcursors hrd (by omega) (by omega) rfl⟩

end Sys2Proof.Machine
end

section
/-! ## DECODE's scan over whole symbols (rules R174, R175, R184)

The scan brings DECODE from step 1 to any place between two symbols of the body; what it does there is what it does with the
bytes it finds there. -/

namespace Sys2Proof.Machine

/-- A write before a range does not change it. -/
theorem Memory.readRange_writeRange_of_le {m : Memory} {i j : Nat} (k : Nat) {bs : List Byte} (h : j + bs.length ≤ i) :
    Memory.readRange (Memory.writeRange m j bs) i k = Memory.readRange m i k := by
  induction bs generalizing m j with
  | nil => rfl
  | cons b bs ih =>
    rw [List.length_cons] at h
    rw [Memory.writeRange, ih (by omega), Memory.readRange_write_of_lt k b (by omega)]

theorem Memory.readRange_append {m : Memory} {i : Nat} {l r : List Byte}
    (h : Memory.readRange m i (l ++ r).length = some (l ++ r)) :
    Memory.readRange m i l.length = some l ∧ Memory.readRange m (i + l.length) r.length = some r := by
  induction l generalizing i with
  | nil => exact ⟨rfl, h⟩
  | cons b l ih =>
    obtain ⟨hb, hrest⟩ := Memory.readRange_eq_some_cons.1 h
    obtain ⟨hl, hr⟩ := ih hrest
    refine ⟨Memory.readRange_eq_some_cons.2 ⟨hb, hl⟩, ?_⟩
    rwa [List.length_cons, Nat.add_comm l.length, ← Nat.add_assoc]

theorem scanLoop_succ {s : State} (h : s.rd.toNat + 2 ≤ s.rxlen.toNat) (fuel : Nat) :
    scanLoop (fuel + 1) s = andThen (scanSymbol s) fun t => if t.decst = .scan then scanLoop fuel t else .next t :=
  if_pos h

/-- The scan reads the first of whole symbols, and stands behind it. -/
theorem scanSymbol_of_scanned {pre l : List Byte} {raw : Byte} {s : State} (h : Scanned pre (raw :: l))
    (hcap : s.rd.toNat + pre.length < 522) (hwr : s.wr.toNat ≤ s.rd.toNat)
    (hpre : Memory.readRange s.rxb s.rd.toNat pre.length = some pre) :
    ∃ (left : List Byte) (rd : Word), Scanned left l ∧
      scanSymbol s = .next { s with rxb := Memory.write s.rxb s.wr.toNat raw, wr := s.wr + 1, rd := rd } ∧
      s.rd.toNat < rd.toNat ∧ rd.toNat + left.length = s.rd.toNat + pre.length ∧
      Memory.readRange s.rxb rd.toNat left.length = some left := by
  cases h with
  | @literal _ left _ hdelim hesc h =>
    rw [List.length_cons] at hcap
    obtain ⟨hb, hleft⟩ := Memory.readRange_eq_some_cons.1 hpre
    have hrd : (s.rd + 1).toNat = s.rd.toNat + 1 := toNat_add_one (by omega)
    refine ⟨left, s.rd + 1, h, (scanSymbol_of_literal (by omega) hb hdelim hesc).trans (scanPut_of_lt (by omega)), ?_, ?_,
      by rw [hrd, hleft]⟩
    · omega
    · rw [List.length_cons]
      omega
  | @pair f _ left _ hraw h =>
    rw [List.length_cons, List.length_cons] at hcap
    obtain ⟨hb, hrest⟩ := Memory.readRange_eq_some_cons.1 hpre
    obtain ⟨hf, hleft⟩ := Memory.readRange_eq_some_cons.1 hrest
    have hrd1 : (s.rd + 1).toNat = s.rd.toNat + 1 := toNat_add_one (by omega)
    have hrd2 : (s.rd + 1 + 1).toNat = s.rd.toNat + 1 + 1 := (toNat_add_one (by omega)).trans (congrArg (· + 1) hrd1)
    have hstep := scanSymbol_of_marker_read (by omega) hb hf
    rw [hraw, Option.elim_some, scanPut_of_lt (s := { s with rd := s.rd + 1 }) (show s.wr.toNat < 522 by omega)] at hstep
    refine ⟨left, s.rd + 1 + 1, h, hstep, ?_, ?_, by rw [hrd2, hleft]⟩
    · omega
    · rw [List.length_cons, List.length_cons]
      omega

/-- The scan over whole symbols, none of them the last byte: their logical bytes go to RXB from WR on. -/
theorem scanLoop_of_scanned {pre l : List Byte} {s : State} (h : Scanned pre l) (fuel : Nat) (hs : s.decst = .scan)
    (hcap : s.rxlen.toNat ≤ 522) (hcursors : s.wr.toNat ≤ s.rd.toNat)
    (hroom : s.rd.toNat + pre.length + 1 ≤ s.rxlen.toNat)
    (hpre : Memory.readRange s.rxb s.rd.toNat pre.length = some pre) :
    scanLoop (l.length + fuel) s = scanLoop fuel { s with
      rxb := Memory.writeRange s.rxb s.wr.toNat l
      wr := s.wr + BitVec.ofNat 16 l.length
      rd := s.rd + BitVec.ofNat 16 pre.length } := by
  induction l generalizing pre s with
  | nil =>
    cases h
    simp [Memory.writeRange]
  | cons raw l ih =>
    obtain ⟨left, rd, hscanned, hput, hlt, hend, hleft⟩ := scanSymbol_of_scanned h (by omega) hcursors hpre
    have hwr1 : (s.wr + 1).toNat = s.wr.toNat + 1 := toNat_add_one (by omega)
    have hrd : rd + BitVec.ofNat 16 left.length = s.rd + BitVec.ofNat 16 pre.length := by
      apply BitVec.eq_of_toNat_eq
      simp only [BitVec.toNat_add, BitVec.toNat_ofNat]
      omega
    rw [← Memory.readRange_write_of_lt left.length raw (Nat.lt_of_le_of_lt hcursors hlt)] at hleft
    rw [List.length_cons, Nat.succ_add, scanLoop_of_put hs (by omega) hput]
    refine (ih (s := { s with rxb := _, wr := s.wr + 1, rd := rd }) hscanned hs hcap ?_ ?_ hleft).trans ?_
    · simp only [hwr1]
      omega
    · change rd.toNat + _ + 1 ≤ s.rxlen.toNat
      omega
    · simp only [hwr1, add_one_add_ofNat, Memory.writeRange, hrd]

/-- DECODE between two symbols of the body: `pre` is read, and `l` stands at RXB[0..WR). -/
def scanAt (pre l : List Byte) (s : State) : State :=
  { decodeStart s with
    rxb := Memory.writeRange s.rxb 0 l
    wr := BitVec.ofNat 16 l.length
    rd := BitVec.ofNat 16 (pre.length + 1)
    decst := .scan }

theorem execDecode_of_not_refused {s : State} (harmed : s.rxarmed = false) (hcap : s.rxlen.toNat ≤ 522) :
    execDecode s = decodeHeader (decodeStart s) fun t =>
      scanLoop t.rxlen.toNat { t with rd := 1, wr := 0, decst := .scan } := by
  refine if_neg fun h => ?_
  rcases decodeRefused_iff.1 h with h | h
  · cases harmed.symm.trans h
  · omega

theorem decodeHeader_of_headerPasses {s : State} (h : HeaderPasses s) (hcap : s.rxlen.toNat ≤ 522) (k : State → Res) :
    decodeHeader s k = k s := by
  obtain ⟨hmin, hfirst, hlast⟩ := h
  have hpos : 6 ≤ s.rxlen.toNat := hmin
  rw [decodeHeader, if_neg (Nat.not_lt.2 hmin), fetchByte_of_read (sp := .rxb) (s := s) _ (show 0 < 522 by decide) hfirst,
    if_neg (not_not.2 rfl), fetchByte_of_read (sp := .rxb) (s := s) _ (show _ < 522 by omega) hlast,
    if_neg (not_not.2 rfl)]

/-- Step 1 passed, DECODE scans from the first body byte on. -/
theorem execDecode_of_headerPasses {s : State} (harmed : s.rxarmed = false) (hcap : s.rxlen.toNat ≤ 522)
    (h : HeaderPasses s) : execDecode s = scanLoop s.rxlen.toNat (scanAt [] [] s) :=
  (execDecode_of_not_refused harmed hcap).trans (decodeHeader_of_headerPasses (s := decodeStart s) h hcap _)

theorem toNat_rd_scanAt {pre : List Byte} {s : State} (l : List Byte) (h : pre.length + 2 ≤ s.rxlen.toNat) :
    (scanAt pre l s).rd.toNat = 1 + pre.length := by
  have hlt := s.rxlen.isLt
  rw [scanAt, BitVec.toNat_ofNat, Nat.add_comm]
  exact Nat.mod_eq_of_lt (by omega)

/-- DECODE's scan has read whole symbols, and meets the next one. -/
theorem execDecode_of_scanned {pre l : List Byte} {s : State} (harmed : s.rxarmed = false)
    (hcap : s.rxlen.toNat ≤ 522) (hheader : HeaderPasses s) (hroom : pre.length + 3 ≤ s.rxlen.toNat)
    (hpre : Memory.readRange s.rxb 1 pre.length = some pre) (h : Scanned pre l) :
    ∃ fuel, execDecode s = andThen (scanSymbol (scanAt pre l s)) fun t =>
      if t.decst = .scan then scanLoop fuel t else .next t := by
  have hle := h.length_le
  obtain ⟨fuel, hfuel⟩ : ∃ fuel, s.rxlen.toNat = l.length + (fuel + 1) := ⟨s.rxlen.toNat - l.length - 1, by omega⟩
  have hrd := toNat_rd_scanAt (pre := pre) (s := s) l (by omega)
  have hnext : scanLoop s.rxlen.toNat (scanAt [] [] s) = scanLoop (fuel + 1) (scanAt pre l s) := by
    rw [hfuel, scanLoop_of_scanned (s := scanAt [] [] s) h (fuel + 1) rfl hcap (Nat.zero_le 1)
      (by change 1 + _ + 1 ≤ s.rxlen.toNat; omega) hpre]
    simp only [scanAt, List.length_nil, Memory.writeRange, BitVec.toNat_ofNat, Nat.zero_mod, BitVec.zero_add, Nat.zero_add,
      Nat.add_comm pre.length, BitVec.ofNat_add]
  refine ⟨fuel, (execDecode_of_headerPasses harmed hcap hheader).trans (hnext.trans (scanLoop_succ ?_ fuel))⟩
  change (scanAt pre l s).rd.toNat + 2 ≤ s.rxlen.toNat
  omega

end Sys2Proof.Machine
end

section
/-! ## A DECODE that fails (rules R173 to R181, R266, R272)

Whatever the error, RXB and the working registers alone have changed before it, RXB below RXLEN only; raising it then makes
RXB[0..RXLEN) unspecified. -/

namespace Sys2Proof.Machine

/-- `u` stands in a DECODE that began in `s`: RXVALID is 0, RXB and the working registers alone have changed, and RXB only
below RXLEN. -/
structure DecodeBelow (s u : State) : Prop where
  frame : u = { s with
    rxvalid := false, rxb := u.rxb, rxusz := u.rxusz, csacc := u.csacc, wr := u.wr, rd := u.rd, decst := u.decst }
  beyond : ∀ i, s.rxlen.toNat ≤ i → Memory.read u.rxb i = Memory.read s.rxb i

/-- The state DECODE fails with: the error, and free bytes in RXB[0..RXLEN) (rules R181, R270, R272). -/
theorem DecodeBelow.raiseDecode_eq {s u : State} (h : DecodeBelow s u) (e : ErrorKind) :
    raiseDecode e u = { s with
      rxb := (raiseDecode e u).rxb, err := e, rxvalid := false, rxusz := u.rxusz, csacc := u.csacc
      rd := u.rd, wr := u.wr, encst := .idle, decst := .idle, freeCtr := s.freeCtr + s.rxlen.toNat } := by
  rw [h.frame]
  rfl

theorem DecodeBelow.read_raiseDecode {s u : State} (h : DecodeBelow s u) (e : ErrorKind) (i : Nat) :
    Memory.read (raiseDecode e u).rxb i =
      if i < s.rxlen.toNat then some (Config.freeByte (s.freeCtr + i)) else Memory.read s.rxb i := by
  have hlen : u.rxlen = s.rxlen := by rw [h.frame]
  have hctr : u.freeCtr = s.freeCtr := by rw [h.frame]
  refine (read_unspecifyRxb u i).trans ?_
  rw [hlen, hctr]
  split
  · rfl
  next hi => exact h.beyond i (Nat.not_lt.1 hi)

theorem decodeBelow_decodeStart (s : State) : DecodeBelow s (decodeStart s) := ⟨rfl, fun _ _ => rfl⟩

/-- Logical bytes written from RXB[0] on stay below RXLEN. -/
theorem DecodeBelow.of_writeRange {s u : State} {l : List Byte} (hl : l.length ≤ s.rxlen.toNat)
    (hrxb : u.rxb = Memory.writeRange s.rxb 0 l)
    (frame : u = { s with
      rxvalid := false, rxb := u.rxb, rxusz := u.rxusz, csacc := u.csacc, wr := u.wr, rd := u.rd, decst := u.decst }) :
    DecodeBelow s u where
  frame := frame
  beyond i hi := by rw [hrxb, Memory.read_writeRange, if_neg (by omega)]

/-! ### Step 1 -/

theorem decodeHeader_of_headerFails {s : State} (h : HeaderFails s) (hcap : s.rxlen.toNat ≤ 522) (k : State → Res) :
    decodeHeader s k = .next (raiseDecode .frameError s) := by
  rw [decodeHeader]
  split
  · rfl
  next hmin =>
  rw [Config.minLen] at hmin
  rcases h with h | ⟨b, hb, hne⟩ | ⟨hfirst, b, hb, hne⟩
  · exact absurd h hmin
  · rw [fetchByte_of_read (sp := .rxb) (s := s) _ (show 0 < 522 by decide) hb, if_pos hne]
  · rw [fetchByte_of_read (sp := .rxb) (s := s) _ (show 0 < 522 by decide) hfirst, if_neg (not_not.2 rfl),
      fetchByte_of_read (sp := .rxb) (s := s) _ (show _ < 522 by omega) hb, if_pos hne]

theorem execDecode_of_headerFails {s : State} (harmed : s.rxarmed = false) (hcap : s.rxlen.toNat ≤ 522)
    (h : HeaderFails s) : execDecode s = .next (raiseDecode .frameError (decodeStart s)) :=
  (execDecode_of_not_refused harmed hcap).trans (decodeHeader_of_headerFails (s := decodeStart s) h hcap _)

/-- On a buffer that can be read whole, step 1 passes or fails as its function says. -/
theorem headerPasses_or_fails {s : State} {raw : List Byte} (hraw : Memory.readRange s.rxb 0 s.rxlen.toNat = some raw) :
    (headerOk raw = true ∧ HeaderPasses s) ∨ (headerOk raw = false ∧ HeaderFails s) := by
  have hlen := (Memory.readRange_eq_some.1 hraw).1
  by_cases hmin : s.rxlen.toNat < Config.minLen
  · exact .inr ⟨by simp [headerOk, hlen, hmin], .inl hmin⟩
  have hpos : 6 ≤ s.rxlen.toNat := Nat.not_lt.1 hmin
  obtain ⟨first, hfirst, hhead⟩ := Memory.exists_read_of_readRange hraw (i := 0) (by omega)
  obtain ⟨last, hlast, hgetLast⟩ := Memory.exists_read_of_readRange hraw (i := s.rxlen.toNat - 1) (by omega)
  rw [← List.head?_eq_getElem?] at hhead
  rw [← hlen, ← List.getLast?_eq_getElem?] at hgetLast
  by_cases hf : first = Config.delim
  · subst hf
    by_cases hl : last = Config.delim
    · subst hl
      exact .inl ⟨by simp [headerOk, hlen, Nat.not_lt.1 hmin, hhead, hgetLast], Nat.not_lt.1 hmin, hfirst, hlast⟩
    · exact .inr ⟨by simp [headerOk, hgetLast, hl], .inr (.inr ⟨hfirst, last, hlast, hl⟩)⟩
  · exact .inr ⟨by simp [headerOk, hhead, hf], .inr (.inl ⟨first, hfirst, hf⟩)⟩

theorem decodeHeader_of_unwritten_end {s : State} (hmin : 6 ≤ s.rxlen.toNat) (hcap : s.rxlen.toNat ≤ 522)
    (h : Memory.read s.rxb 0 = none ∨
      (Memory.read s.rxb 0 = some Config.delim ∧ Memory.read s.rxb (s.rxlen.toNat - 1) = none)) (k : State → Res) :
    decodeHeader s k = .fault .unwrittenByte := by
  have hlong : ¬ s.rxlen.toNat < Config.minLen := Nat.not_lt.2 hmin
  rw [decodeHeader, if_neg hlong]
  rcases h with h | ⟨hfirst, h⟩
  · exact fetchByte_of_unwritten (sp := .rxb) _ (show 0 < 522 by decide) h
  · rw [fetchByte_of_read (sp := .rxb) (s := s) _ (show 0 < 522 by decide) hfirst, if_neg (not_not.2 rfl)]
    exact fetchByte_of_unwritten (sp := .rxb) _ (show s.rxlen.toNat - 1 < 522 by omega) h

/-! ### Step 2 -/

/-- What the scan has not read yet is as received. -/
theorem read_scanAt {pre l : List Byte} {i : Nat} (h : Scanned pre l) (s : State) (hi : pre.length ≤ i) :
    Memory.read (scanAt pre l s).rxb i = Memory.read s.rxb i := by
  have hle := h.length_le
  exact (Memory.read_writeRange l s.rxb 0 i).trans (if_neg (by omega))

theorem readRange_scanAt {pre l : List Byte} {i : Nat} (h : Scanned pre l) (s : State) (hi : pre.length ≤ i) (k : Nat) :
    Memory.readRange (scanAt pre l s).rxb i k = Memory.readRange s.rxb i k :=
  Memory.readRange_writeRange_of_le k (by have := h.length_le; omega)

theorem scanSymbol_of_failing {sym : List Byte} {e : ErrorKind} {s : State} (h : FailingSymbol sym e)
    (hcap : s.rd.toNat + 1 < 522) (hsym : Memory.readRange s.rxb s.rd.toNat sym.length = some sym) :
    ∃ rd : Word, scanSymbol s = .next (raiseDecode e { s with rd := rd }) := by
  cases h with
  | delim =>
    obtain ⟨hb, -⟩ := Memory.readRange_eq_some_cons.1 hsym
    exact ⟨s.rd, scanSymbol_of_delim (Nat.lt_of_succ_lt hcap) hb⟩
  | marker hf =>
    obtain ⟨hb, hrest⟩ := Memory.readRange_eq_some_cons.1 hsym
    obtain ⟨hfollower, -⟩ := Memory.readRange_eq_some_cons.1 hrest
    have hstep := scanSymbol_of_marker_read hcap hb hfollower
    rw [hf] at hstep
    exact ⟨s.rd + 1, hstep⟩

/-- DECODE's scan meets a symbol that fails, which does not begin with the last byte. -/
theorem execDecode_of_failing {pre l sym : List Byte} {e : ErrorKind} {s : State} (harmed : s.rxarmed = false)
    (hcap : s.rxlen.toNat ≤ 522) (hheader : HeaderPasses s) (hroom : pre.length + 3 ≤ s.rxlen.toNat)
    (hread : Memory.readRange s.rxb 1 (pre ++ sym).length = some (pre ++ sym)) (hpre : Scanned pre l)
    (hsym : FailingSymbol sym e) :
    ∃ u, DecodeBelow s u ∧ u.rxusz = 0 ∧ u.csacc = 0 ∧ execDecode s = .next (raiseDecode e u) := by
  obtain ⟨hreadPre, hreadSym⟩ := Memory.readRange_append hread
  obtain ⟨_, hrun⟩ := execDecode_of_scanned harmed hcap hheader (by omega) hreadPre hpre
  have hrd := toNat_rd_scanAt (pre := pre) (s := s) l (by omega)
  rw [← readRange_scanAt hpre s (by omega), ← hrd] at hreadSym
  obtain ⟨rd, hstep⟩ := scanSymbol_of_failing hsym (by omega) hreadSym
  have hle := hpre.length_le
  refine ⟨{ scanAt pre l s with rd := rd }, .of_writeRange (l := l) (by omega) rfl rfl, rfl, rfl, hrun.trans ?_⟩
  rw [hstep]
  rfl

/-- DECODE's scan reaches a byte without a value: as a symbol's first, or as a marker's follower. -/
theorem execDecode_of_unwritten {pre l left : List Byte} {s : State} (harmed : s.rxarmed = false)
    (hcap : s.rxlen.toNat ≤ 522) (hheader : HeaderPasses s) (hroom : (pre ++ left).length + 3 ≤ s.rxlen.toNat)
    (hread : Memory.readRange s.rxb 1 (pre ++ left).length = some (pre ++ left)) (hpre : Scanned pre l)
    (hleft : left = [] ∨ left = [Config.esc]) (hnone : Memory.read s.rxb (1 + (pre ++ left).length) = none) :
    execDecode s = .fault .unwrittenByte := by
  rw [List.length_append] at hroom hnone
  obtain ⟨hreadPre, hreadLeft⟩ := Memory.readRange_append hread
  obtain ⟨_, hrun⟩ := execDecode_of_scanned harmed hcap hheader (by omega) hreadPre hpre
  have hrd := toNat_rd_scanAt (pre := pre) (s := s) l (by omega)
  have hstep : scanSymbol (scanAt pre l s) = .fault .unwrittenByte := by
    rw [← read_scanAt hpre s (by omega)] at hnone
    rcases hleft with rfl | rfl
    · exact scanSymbol_of_unwritten (by omega) (by rw [hrd]; exact hnone)
    · rw [← readRange_scanAt hpre s (by omega), ← hrd] at hreadLeft
      obtain ⟨hb, -⟩ := Memory.readRange_eq_some_cons.1 hreadLeft
      exact scanSymbol_of_marker_unwritten (by omega) hb (by rw [hrd, Nat.add_assoc]; exact hnone)
  rw [hrun, hstep]
  rfl

theorem Memory.readRange_tail {m : Memory} {i k : Nat} {raw : List Byte} (h : Memory.readRange m i k = some raw) :
    raw.tail.length = k - 1 ∧ Memory.readRange m (i + 1) raw.tail.length = some raw.tail := by
  have hlen := (Memory.readRange_eq_some.1 h).1
  refine ⟨by rw [List.length_tail, hlen], ?_⟩
  match raw with
  | [] => rfl
  | d :: body =>
    rw [← hlen] at h
    exact (Memory.readRange_eq_some_cons.1 h).2

/-- On a buffer that can be read whole, DECODE's scan errs as the function does. -/
theorem execDecode_of_scan_error {raw : List Byte} {e : ErrorKind} {s : State} (harmed : s.rxarmed = false)
    (hcap : s.rxlen.toNat ≤ 522) (hraw : Memory.readRange s.rxb 0 s.rxlen.toNat = some raw) (hheader : HeaderPasses s)
    (hscan : unescape raw.tail = .error e) :
    ∃ u, DecodeBelow s u ∧ u.rxusz = 0 ∧ u.csacc = 0 ∧ execDecode s = .next (raiseDecode e u) := by
  obtain ⟨hlen, hbody⟩ := Memory.readRange_tail hraw
  obtain ⟨pre, l, sym, rest, htail, hpre, hsym, hroom⟩ := unescape_eq_error hscan
  rw [htail, ← List.append_assoc] at hbody
  exact execDecode_of_failing harmed hcap hheader (by omega) (Memory.readRange_append hbody).1 hpre hsym

/-! ### Steps 3 and 4 -/

/-- DECODE's scan of a buffer that can be read whole has ended (rule R177). -/
theorem execDecode_of_unescape {raw l : List Byte} {s : State} (harmed : s.rxarmed = false)
    (hcap : s.rxlen.toNat ≤ 522) (hraw : Memory.readRange s.rxb 0 s.rxlen.toNat = some raw) (hheader : HeaderPasses s)
    (hscan : unescape raw.tail = .ok l) :
    ∃ rd : Word, execDecode s = decodeLength { scanAt [] l s with rd := rd } := by
  have hmin : 6 ≤ s.rxlen.toNat := hheader.1
  obtain ⟨hlen, hbody⟩ := Memory.readRange_tail hraw
  obtain ⟨rd, h⟩ := scanLoop_of_unescape (fuel := s.rxlen.toNat) (s := scanAt [] [] s) rfl hcap (Nat.zero_le 1)
    (by change 1 + _ = s.rxlen.toNat; omega) (by omega) hbody hscan
  refine ⟨rd, (execDecode_of_headerPasses harmed hcap hheader).trans (h.trans ?_)⟩
  simp [scanAt, Memory.writeRange]

theorem decodeLength_of_length_ne {s : State} {n : Byte} (hn : Memory.read s.rxb 2 = some n)
    (hne : n.toNat + 4 ≠ s.wr.toNat) :
    decodeLength s = .next (raiseDecode .frameError { s with rxusz := s.wr }) := by
  rw [decodeLength, fetchByte_of_read (sp := .rxb) (s := { s with rxusz := s.wr }) _ (show 2 < 522 by decide) hn,
    if_neg fun h => hne (lengthMatches_iff.1 h).symm]

/-- Steps 3 and 4 on bytes whose length is right and whose checksum is wrong (rules R178, R179). -/
theorem decodeLength_of_checksum_ne {a c n x : Byte} {p : List Byte} {s : State} (hn : n.toNat = p.length)
    (hwr : s.wr.toNat = p.length + 4) (hacc : s.csacc = 0)
    (hbody : Memory.readRange s.rxb 0 (p.length + 4) = some (a :: c :: n :: (p ++ [x])))
    (hx : x ≠ checksum (a :: c :: n :: p)) :
    decodeLength s = .next (raiseDecode .checksumMismatch { s with
      rxusz := s.wr, csacc := sumBytes (a :: c :: n :: p), rd := BitVec.ofNat 16 (p.length + 3) }) := by
  have hp : p.length ≤ 255 := by have := n.isLt; omega
  obtain ⟨-, hread⟩ := Memory.readRange_eq_some.1 hbody
  simp only [Nat.zero_add] at hread
  have hlength : Memory.read s.rxb 2 = some n := hread 2 (by omega)
  have hlast : Memory.read s.rxb (p.length + 3) = some x :=
    (hread _ (by omega)).trans (List.getElem?_concat_length (l := a :: c :: n :: p))
  have hfields : Memory.readRange s.rxb 0 (p.length + 3) = some (a :: c :: n :: p) :=
    (Memory.readRange_append (l := a :: c :: n :: p) (r := [x])
      (by rw [List.length_append]; exact hbody)).1
  have hmatch : lengthMatches n s.wr = true := lengthMatches_iff.2 (by rw [hwr, hn, Config.ovh])
  have hsum : s.wr.toNat - 1 = p.length + 3 := by omega
  have hrd : (BitVec.ofNat 16 (p.length + 3)).toNat = p.length + 3 := by rw [BitVec.toNat_ofNat]; omega
  rw [decodeLength, fetchByte_of_read (sp := .rxb) (s := { s with rxusz := s.wr }) _ (show 2 < 522 by decide) hlength,
    if_pos hmatch, hsum, sumLoop_of_readRange (s := { s with rxusz := s.wr, rd := 0 }) (bs := a :: c :: n :: p)
      (show 0 + _ ≤ 522 by omega) hfields]
  simp only [hacc, zero_add]
  rw [compareChecksum, fetchByte_of_read (sp := .rxb) (b := x) _ (hrd.trans_lt (show _ < 522 by omega))
    (by rw [hrd]; exact hlast), if_pos fun h => hx h.symm]

end Sys2Proof.Machine
end

section
/-! ## What a failed DECODE leaves (rules R181, R189, R272) -/

namespace Sys2Proof.Machine

/-- The length byte step 3 finds is wrong: it is the logical body's third byte, or where there is none a received byte. -/
theorem exists_wrong_length_byte {m : Memory} {k : Nat} {raw l : List Byte} (hraw : Memory.readRange m 0 k = some raw)
    (hmin : 6 ≤ k) (hne : ∀ n : Byte, l[2]? = some n → n.toNat + 4 ≠ l.length) :
    ∃ n, Memory.read (Memory.writeRange m 0 l) 2 = some n ∧ n.toNat + 4 ≠ l.length := by
  have hread := Memory.read_writeRange l m 0 2
  by_cases hshort : l.length ≤ 2
  · obtain ⟨b, hb, -⟩ := Memory.exists_read_of_readRange hraw (i := 2) (by omega)
    rw [if_neg (by omega)] at hread
    exact ⟨b, hread.trans hb, by omega⟩
  · rw [if_pos (by omega), List.getElem?_eq_getElem (by omega)] at hread
    exact ⟨_, hread, hne _ (List.getElem?_eq_getElem (by omega))⟩

/-- A failure in step 3 or 4: RXUSZ is the logical size, CSACC 0 before the sum and the sum after it. -/
theorem execDecode_of_invalid {raw l : List Byte} {e : ErrorKind} {s : State} (harmed : s.rxarmed = false)
    (hcap : s.rxlen.toNat ≤ 522) (hraw : Memory.readRange s.rxb 0 s.rxlen.toNat = some raw) (hheader : HeaderPasses s)
    (hscan : unescape raw.tail = .ok l) (hvalid : validate l = .error e) :
    ∃ u, DecodeBelow s u ∧ u.rxusz.toNat = l.length ∧
      u.csacc = (if e = .checksumMismatch then sumBytes l.dropLast else 0) ∧
      execDecode s = .next (raiseDecode e u) := by
  have hmin : 6 ≤ s.rxlen.toNat := hheader.1
  have hl : l.length ≤ s.rxlen.toNat := by
    have hle := length_le_of_unescape hscan
    rw [(Memory.readRange_tail hraw).1] at hle
    omega
  have hwr : (BitVec.ofNat 16 l.length).toNat = l.length := Nat.mod_eq_of_lt (by omega)
  obtain ⟨rd, hrun⟩ := execDecode_of_unescape harmed hcap hraw hheader hscan
  rcases validate_eq_error_cases hvalid with ⟨rfl, hne⟩ | ⟨rfl, a, c, n, p, x, rfl, hn, hx⟩
  · obtain ⟨n, hn, hlen⟩ := exists_wrong_length_byte hraw hmin hne
    rw [← hwr] at hlen
    exact ⟨{ scanAt [] l s with rd := rd, rxusz := BitVec.ofNat 16 l.length }, .of_writeRange (l := l) hl rfl rfl, hwr,
      rfl, hrun.trans (decodeLength_of_length_ne (s := { scanAt [] l s with rd := rd }) hn hlen)⟩
  · have hlen : (a :: c :: n :: (p ++ [x])).length = p.length + 4 := by simp
    have hbody := Memory.readRange_writeRange s.rxb 0 (a :: c :: n :: (p ++ [x]))
    have hfields : (a :: c :: n :: (p ++ [x])).dropLast = a :: c :: n :: p :=
      List.dropLast_concat (l₁ := a :: c :: n :: p)
    rw [hlen] at hbody
    exact ⟨_, .of_writeRange (l := a :: c :: n :: (p ++ [x])) hl rfl rfl, hwr, by rw [hfields]; rfl,
      hrun.trans (decodeLength_of_checksum_ne (s := { scanAt [] (a :: c :: n :: (p ++ [x])) s with rd := rd }) hn
        (hwr.trans hlen) rfl hbody hx)⟩

/-- DECODE of a buffer `unstuff` rejects, stage by stage. -/
theorem execDecode_of_unstuff_error {raw : List Byte} {e : ErrorKind} {s : State} (harmed : s.rxarmed = false)
    (hcap : s.rxlen.toNat ≤ 522) (hraw : Memory.readRange s.rxb 0 s.rxlen.toNat = some raw)
    (herror : unstuff raw = .error e) :
    ∃ u, DecodeBelow s u ∧ execDecode s = .next (raiseDecode e u) ∧
      (headerOk raw = false → u.rxusz = 0 ∧ u.csacc = 0) ∧
      (headerOk raw = true → ∀ x : ErrorKind, unescape raw.tail = .error x → u.rxusz = 0 ∧ u.csacc = 0) ∧
      (headerOk raw = true → ∀ l : List Byte, unescape raw.tail = .ok l → u.rxusz.toNat = l.length ∧
        u.csacc = if e = .checksumMismatch then sumBytes l.dropLast else 0) := by
  rcases headerPasses_or_fails hraw with ⟨hok, hheader⟩ | ⟨hok, hheader⟩
  · cases hscan : unescape raw.tail with
    | error x =>
      cases (unstuff_of_scan_error hok hscan).symm.trans herror
      obtain ⟨u, hu, husz, hacc, hrun⟩ := execDecode_of_scan_error harmed hcap hraw hheader hscan
      exact ⟨u, hu, hrun, fun h => (nomatch hok.symm.trans h), fun _ _ _ => ⟨husz, hacc⟩, fun _ _ h => nomatch h⟩
    | ok l =>
      have hvalid := (unstuff_of_scanned hok hscan).symm.trans herror
      obtain ⟨u, hu, husz, hacc, hrun⟩ := execDecode_of_invalid harmed hcap hraw hheader hscan hvalid
      exact ⟨u, hu, hrun, fun h => (nomatch hok.symm.trans h), fun _ _ h => (nomatch h),
        fun _ _ h => by cases h; exact ⟨husz, hacc⟩⟩
  · cases (unstuff_of_header_fails hok).symm.trans herror
    exact ⟨decodeStart s, decodeBelow_decodeStart s, execDecode_of_headerFails harmed hcap hheader,
      fun _ => ⟨rfl, rfl⟩, fun h => (nomatch hok.symm.trans h), fun h => nomatch hok.symm.trans h⟩

/-- Settles O25: where DECODE stops is where the function stops; what it leaves there is `DecodeBelow` and the error. -/
theorem failedDecodeEffects : Obligations.FailedDecodeEffects := by
  refine ⟨fun s raw e harmed hcap hraw herror => ?_, fun s harmed hcap hheader => ?_,
    fun s pre e harmed hcap hheader hbody hscan => ?_, fun s harmed hmin hcap hnone => ?_,
    fun s pre l harmed hcap hheader hbody hscan hnone => ?_⟩
  · obtain ⟨u, hu, hrun, hstep1, hstep2, hstep34⟩ := execDecode_of_unstuff_error harmed hcap hraw herror
    exact ⟨raiseDecode e u, hrun, hu.raiseDecode_eq e, hstep1, hstep2, hstep34, hu.read_raiseDecode e⟩
  · have hu := decodeBelow_decodeStart s
    exact ⟨_, execDecode_of_headerFails harmed hcap hheader, hu.raiseDecode_eq .frameError,
      hu.read_raiseDecode .frameError⟩
  · obtain ⟨hroom, hread⟩ := hbody
    obtain ⟨begun, l, sym, rest, rfl, hpre, hsym⟩ := scanPrefix_eq_error hscan
    rw [← List.append_assoc] at hroom hread
    have hpos := hsym.length_pos
    rw [List.length_append, List.length_append] at hroom
    obtain ⟨u, hu, husz, hacc, hrun⟩ :=
      execDecode_of_failing harmed hcap hheader (by omega) (Memory.readRange_append hread).1 hpre hsym
    have heq := hu.raiseDecode_eq e
    rw [husz, hacc] at heq
    exact ⟨_, hrun, heq, hu.read_raiseDecode e⟩
  · exact (execDecode_of_not_refused harmed hcap).trans
      (decodeHeader_of_unwritten_end (s := decodeStart s) hmin hcap hnone _)
  · obtain ⟨hroom, hread⟩ := hbody
    obtain ⟨begun, m, left, rfl, hpre, hleft⟩ := scanPrefix_eq_ok hscan
    have hlast := hheader.2.2
    have hne : 1 + (begun ++ left).length ≠ s.rxlen.toNat - 1 := fun h => by
      rw [← h, hnone] at hlast
      cases hlast
    exact execDecode_of_unwritten harmed hcap hheader (by omega) hread hpre hleft hnone

theorem unstuff_of_bad_follower {raw : List Byte} {i : Nat} {f : Byte} (hmarker : raw[i + 1]? = some Config.esc)
    (hfollower : raw[i + 2]? = some f) (hcode : unesc f = none) :
    ∃ e, unstuff raw = .error e ∧ (e = .frameError ∨ e = .unknownEscapeCode) := by
  cases hheader : headerOk raw with
  | false => exact ⟨_, unstuff_of_header_fails hheader, .inl rfl⟩
  | true =>
    cases hscan : unescape raw.tail with
    | error e => exact ⟨e, unstuff_of_scan_error hheader hscan, unescape_error_kind hscan⟩
    | ok l =>
      rw [← List.getElem?_tail] at hmarker hfollower
      exact absurd hscan (unescape_of_bad_follower hmarker hfollower hcode)

/-- Settles O31: the scan cannot end well, so `unstuff` errs in step 1 or in the scan, and DECODE with it. -/
theorem unknownEscapeNeverDecodes : Obligations.UnknownEscapeNeverDecodes := by
  intro s raw i f harmed hcap hraw hi _ hmarker hfollower hcode
  obtain ⟨i, rfl⟩ := Nat.exists_eq_add_of_le' hi
  have hnone : unesc f = none := by
    simp only [List.mem_cons, List.not_mem_nil, or_false, not_or] at hcode
    obtain ⟨h31, h33, h5d, h5e⟩ := hcode
    exact unesc_of_ne h31 h33 h5d h5e
  obtain ⟨e, herror, hkind⟩ := unstuff_of_bad_follower hmarker hfollower hnone
  obtain ⟨u, hu, hrun, -⟩ := execDecode_of_unstuff_error harmed hcap hraw herror
  have heq := hu.raiseDecode_eq e
  refine ⟨_, hrun, hkind, ?_⟩
  rw [heq]
  exact ⟨rfl, rfl, rfl, rfl⟩

end Sys2Proof.Machine
end

section
/-! ## The decoder's state machine (rules R70, R172, R187)

Each row does what the operation's next step does, with DECST counting along. A pair takes two rows, so the bound counts wire
bytes in the scan, and then logical bytes in the sum. -/

namespace Sys2Proof.Machine

/-- The decoder at a row. -/
def atDecst (d : DecState) (s : State) : State := { s with decst := d }

theorem decUntilIdle_of_idle {s : State} (h : s.decst = .idle) (n : Nat) : decUntilIdle n s = .next s := by
  cases n with
  | zero => rfl
  | succ n => exact if_pos h

/-- What ends in D_IDLE is the end. -/
theorem andThen_decUntilIdle {r : Res} (h : ∀ t, r = .next t → t.decst = .idle) (n : Nat) :
    andThen r (decUntilIdle n) = r := by
  cases r with
  | next t => exact decUntilIdle_of_idle (h t rfl) n
  | fault f => rfl
  | refused q => rfl

/-! ### The rows -/

theorem decst_of_compareChecksum {s t : State} (h : compareChecksum s = .next t) : t.decst = .idle := by
  rcases compareChecksum_cases h with rfl | ⟨a, c, n, -, -, -, -, rfl⟩ <;> rfl

theorem decUntilIdle_sum (n : Nat) (s : State) :
    decUntilIdle (n + 1) (atDecst .sum s) =
      if s.rd.toNat + 2 ≤ s.wr.toNat then
        fetchByte .rxb s.rd.toNat s fun b => decUntilIdle n (atDecst .sum { accumulate b s with rd := s.rd + 1 })
      else compareChecksum s := by
  change andThen (if s.rd.toNat + 2 ≤ s.wr.toNat then _ else _) _ = _
  split
  · exact andThen_fetchByte ..
  · exact andThen_decUntilIdle (fun t => decst_of_compareChecksum (s := s)) n

theorem decUntilIdle_len (n : Nat) (s : State) :
    decUntilIdle (n + 1) (atDecst .len s) =
      fetchByte .rxb 2 s fun l =>
        if lengthMatches l s.wr then decUntilIdle n (atDecst .sum { s with rd := 0 })
        else .next (raiseDecode .frameError s) := by
  refine (andThen_fetchByte ..).trans (congrArg (fetchByte .rxb 2 s) (funext fun l => ?_))
  change andThen (if lengthMatches l s.wr = true then _ else _) _ = _
  split
  · rfl
  · exact decUntilIdle_of_idle rfl n

theorem scanPut_atDecst (raw : Byte) (d : DecState) (s : State) :
    scanPut raw (atDecst d s) = andThen (scanPut raw s) fun t => .next (atDecst d t) := by
  rw [scanPut, scanPut, storeByte, storeByte]
  change andThen (if s.wr.toNat < _ then _ else _) _ = _
  split <;> rfl

theorem atDecst_self {d : DecState} {s : State} (h : s.decst = d) : atDecst d s = s := by
  rw [atDecst, ← h]

/-- The row of a follower goes back to the scan, or has taken an error. -/
theorem decUntilIdle_esc (n : Nat) {s : State} (hs : s.decst = .scan) :
    decUntilIdle (n + 1) (atDecst .esc s) = andThen (scanFollower s) (decUntilIdle n) := by
  change andThen (andThen (scanFollower (atDecst .esc s)) _) _ = _
  rw [andThen_assoc, scanFollower, scanFollower, andThen_fetchByte, andThen_fetchByte]
  refine congrArg (fetchByte .rxb s.rd.toNat s) (funext fun f => ?_)
  cases unesc f with
  | none => rfl
  | some raw =>
    change andThen (scanPut raw (atDecst .esc s)) _ = andThen (scanPut raw s) _
    rw [scanPut_atDecst, andThen_assoc]
    refine andThen_congr fun t ht => ?_
    have ht : t.decst = .scan := by rw [(scanPut_eq_next.1 ht).2]; exact hs
    exact congrArg (decUntilIdle n) (atDecst_self ht)

theorem decUntilIdle_scan (n : Nat) {s : State} (hs : s.decst = .scan) :
    decUntilIdle (n + 1) s =
      if s.rd.toNat + 2 ≤ s.rxlen.toNat then
        fetchByte .rxb s.rd.toNat s fun b =>
          if b = Config.delim then .next (raiseDecode .frameError s)
          else if b = Config.esc then decUntilIdle n (atDecst .esc { s with rd := s.rd + 1 })
          else andThen (scanPut b s) (decUntilIdle n)
      else decUntilIdle n (atDecst .len { s with rxusz := s.wr }) := by
  have hrow : s.decst ≠ .idle := by rw [hs]; exact nofun
  rw [decUntilIdle, if_neg hrow, decStep, hs]
  change andThen (if s.rd.toNat + 2 ≤ s.rxlen.toNat then _ else _) _ = _
  split
  · refine (andThen_fetchByte ..).trans (congrArg (fetchByte .rxb s.rd.toNat s) (funext fun b => ?_))
    split
    · exact decUntilIdle_of_idle rfl n
    split
    · rfl
    · rfl
  · rfl

theorem decUntilIdle_hdr (n : Nat) (s : State) :
    decUntilIdle (n + 1) (atDecst .hdr s) =
      decodeHeader s fun t => decUntilIdle n { t with rd := 1, wr := 0, decst := .scan } := by
  have hrow : (atDecst .hdr s).decst ≠ .idle := nofun
  rw [decUntilIdle, if_neg hrow, decStep, decodeHeader, decodeHeader]
  change andThen (if s.rxlen.toNat < Config.minLen then _ else _) _ = _
  split
  · exact decUntilIdle_of_idle rfl n
  refine (andThen_fetchByte ..).trans (congrArg (fetchByte .rxb 0 s) (funext fun first => ?_))
  split
  · exact decUntilIdle_of_idle rfl n
  refine (andThen_fetchByte ..).trans (congrArg (fetchByte .rxb (s.rxlen.toNat - 1) s) (funext fun last => ?_))
  split
  · exact decUntilIdle_of_idle rfl n
  · rfl

theorem decMachine_eq {n : Nat} {s : State} (hs : s.decst = .idle) :
    decMachine n s =
      if decodeRefused s then .next (raise .illegalOp s) else decUntilIdle n (atDecst .hdr (decodeStart s)) := by
  rw [decMachine, decStep, hs]
  change andThen (if decodeRefused s = true then _ else _) _ = _
  split
  · exact decUntilIdle_of_idle rfl n
  · rfl

/-! ### The rows in turn -/

/-- A cursor below another does not wrap. -/
theorem toNat_add_one_of_lt {x : Word} (y : Word) (h : x.toNat < y.toNat) : (x + 1).toNat = x.toNat + 1 := by
  bv_omega

/-- The sum's rows are the sum's loop: one for each byte still to add, and one for the test. -/
theorem decUntilIdle_sum_eq_sumLoop {k n : Nat} {s : State} (hk : s.rd.toNat + 1 + k = s.wr.toNat) (hn : k < n) :
    decUntilIdle n (atDecst .sum s) = sumLoop k s := by
  induction k generalizing n s with
  | zero =>
    obtain ⟨n, rfl⟩ := Nat.exists_eq_add_of_lt hn
    rw [decUntilIdle_sum, if_neg (by omega), sumLoop]
  | succ k ih =>
    obtain ⟨n, rfl⟩ := Nat.exists_eq_add_of_lt hn
    have hrd : (s.rd + 1).toNat = s.rd.toNat + 1 := toNat_add_one_of_lt s.wr (by omega)
    rw [decUntilIdle_sum, if_pos (by omega), sumLoop]
    refine congrArg (fetchByte .rxb s.rd.toNat s) (funext fun b => ih ?_ (by omega))
    change (s.rd + 1).toNat + 1 + k = s.wr.toNat
    omega

/-- The length row and the sum's rows are steps 3 to 5. -/
theorem decUntilIdle_len_eq_decodeLength {n : Nat} {s : State} (hn : s.wr.toNat + 1 ≤ n) :
    decUntilIdle n (atDecst .len { s with rxusz := s.wr }) = decodeLength s := by
  obtain ⟨n, rfl⟩ := Nat.exists_eq_add_of_le' hn
  rw [← Nat.add_assoc, decUntilIdle_len, decodeLength]
  refine congrArg (fetchByte .rxb 2 { s with rxusz := s.wr }) (funext fun l => ?_)
  split
  next h =>
    have hwr : s.wr.toNat = l.toNat + 4 := lengthMatches_iff.1 h
    refine decUntilIdle_sum_eq_sumLoop (s := { s with rxusz := s.wr, rd := 0 }) ?_ ?_
    · change 0 + 1 + (s.wr.toNat - 1) = s.wr.toNat
      omega
    · omega
  · rfl

theorem scanFollower_cases {s t : State} (h : scanFollower s = .next t) :
    t.decst = .idle ∨ ∃ raw, scanPut raw s = .next t := by
  obtain ⟨-, f, -, h⟩ := fetchByte_eq_next.1 h
  split at h
  · cases h
    exact .inl rfl
  · exact .inr ⟨_, h⟩

/-- `fuel` symbols are enough for the rest of the scan, and `n` rows for the rest of DECODE: at most one for each wire byte,
one for each logical byte then, and three. -/
structure ScanBounded (fuel n : Nat) (s : State) : Prop where
  scanning : s.decst = .scan
  symbols : s.rxlen.toNat ≤ s.rd.toNat + fuel + 1
  rows : 2 * (s.rxlen.toNat - s.rd.toNat) + s.wr.toNat + 3 ≤ n

/-- A literal takes a row. -/
theorem ScanBounded.literal {fuel n : Nat} {raw : Byte} {s t : State} (h : ScanBounded (fuel + 1) (n + 1) s)
    (hroom : s.rd.toNat + 2 ≤ s.rxlen.toNat) (hput : scanPut raw s = .next t) : ScanBounded fuel n t := by
  obtain ⟨hscan, hsymbols, hrows⟩ := h
  obtain ⟨hcap, rfl⟩ := scanPut_eq_next.1 hput
  have hwr : (s.wr + 1).toNat = s.wr.toNat + 1 := toNat_add_one hcap
  have hrd : (s.rd + 1).toNat = s.rd.toNat + 1 := toNat_add_one_of_lt s.rxlen (by omega)
  refine ⟨hscan, ?_, ?_⟩
  · simp only [hrd]
    omega
  · simp only [hrd, hwr]
    omega

/-- A pair takes two rows, and two bytes. -/
theorem ScanBounded.pair {fuel n : Nat} {raw : Byte} {s t : State} (h : ScanBounded (fuel + 1) (n + 2) s)
    (hroom : s.rd.toNat + 2 ≤ s.rxlen.toNat) (hput : scanPut raw { s with rd := s.rd + 1 } = .next t) :
    ScanBounded fuel n t := by
  obtain ⟨hscan, hsymbols, hrows⟩ := h
  obtain ⟨hcap, rfl⟩ := scanPut_eq_next.1 hput
  have hwr : (s.wr + 1).toNat = s.wr.toNat + 1 := toNat_add_one hcap
  have hrd1 : (s.rd + 1).toNat = s.rd.toNat + 1 := toNat_add_one_of_lt s.rxlen (by omega)
  have hrd2 : (s.rd + 1 + 1).toNat = s.rd.toNat + 1 + 1 :=
    (toNat_add_one_of_lt s.rxlen (by omega)).trans (congrArg (· + 1) hrd1)
  refine ⟨hscan, ?_, ?_⟩
  · simp only [hrd2]
    omega
  · simp only [hrd2, hwr]
    omega

/-- The rows of the scan, and of what follows it, are the scan's loop. -/
theorem decUntilIdle_eq_scanLoop {fuel n : Nat} {s : State} (h : ScanBounded fuel n s) :
    decUntilIdle n s = scanLoop fuel s := by
  induction fuel generalizing n s with
  | zero =>
    obtain ⟨hscan, hsymbols, hrows⟩ := h
    obtain ⟨n, rfl⟩ : ∃ m, n = m + 1 := ⟨n - 1, by omega⟩
    rw [decUntilIdle_scan n hscan, if_neg (by omega), scanLoop]
    exact decUntilIdle_len_eq_decodeLength (by omega)
  | succ fuel ih =>
    have hrows := h.rows
    obtain ⟨n, rfl⟩ : ∃ m, n = m + 2 := ⟨n - 2, by omega⟩
    have hgo {m : Nat} {t : State} (ht : ScanBounded fuel m t) :
        decUntilIdle m t = if t.decst = .scan then scanLoop fuel t else .next t :=
      (ih ht).trans (if_pos ht.scanning).symm
    rw [decUntilIdle_scan (n + 1) h.scanning, scanLoop]
    split
    next hroom =>
      rw [scanSymbol, andThen_fetchByte]
      refine congrArg (fetchByte .rxb s.rd.toNat s) (funext fun b => ?_)
      split
      · rfl
      split
      · rw [decUntilIdle_esc (s := { s with rd := s.rd + 1 }) n h.scanning]
        refine andThen_congr fun t ht => ?_
        rcases scanFollower_cases ht with hidle | ⟨raw, hput⟩
        · rw [decUntilIdle_of_idle hidle, if_neg (by rw [hidle]; exact nofun)]
        · exact hgo (h.pair hroom hput)
      · exact andThen_congr fun t hput => hgo (h.literal hroom hput)
    · exact decUntilIdle_len_eq_decodeLength (by omega)

/-- Step 1 looks no further than its own state. -/
theorem decodeHeader_congr {s : State} {k l : State → Res} (h : k s = l s) : decodeHeader s k = decodeHeader s l := by
  rw [decodeHeader, decodeHeader, h]

/-- Settles O27: row by row, each step of the operation is a row of the machine, or two. -/
theorem decoderStateMachineAgrees : Obligations.DecoderStateMachineAgrees := by
  intro s k hidle hk
  obtain ⟨n, rfl⟩ : ∃ n, k = n + 1 := ⟨k - 1, by omega⟩
  rw [decMachine_eq hidle, decUntilIdle_hdr, exec, execDecode]
  refine congrArg (ite _ _) (decodeHeader_congr ?_)
  refine decUntilIdle_eq_scanLoop (s := { decodeStart s with rd := 1, wr := 0, decst := .scan }) ⟨rfl, ?_, ?_⟩
  · change s.rxlen.toNat ≤ 1 + s.rxlen.toNat + 1
    omega
  · change 2 * (s.rxlen.toNat - 1) + 0 + 3 ≤ n
    omega

end Sys2Proof.Machine
end

section
/-! ## The channel's commands (rules R200 to R203, R206 to R208)

A command word but CSADD's is decoded by its opcode. Between operations the end of a write is its code in ERR. -/

namespace Sys2Proof

theorem decodeCmd_of_opcode {w : Word} {op : Byte} (h : opcodeOf w = op) (hcsadd : op ≠ 0x08#8) :
    decodeCmd w = decodeCmd (cmdWord 0x00#8 op) :=
  decodeCmd_congr (h.trans (opcodeOf_cmdWord 0x00#8 op).symm) (by rwa [h])

end Sys2Proof

namespace Sys2Proof.Machine

/-- The first bytes of a range that is written. -/
theorem Memory.readRange_take {m : Memory} {i n k : Nat} {l : List Byte} (h : Memory.readRange m i n = some l)
    (hk : k ≤ n) : Memory.readRange m i k = some (l.take k) := by
  obtain ⟨hlen, hread⟩ := Memory.readRange_eq_some.1 h
  refine Memory.readRange_eq_some.2 ⟨List.length_take_of_le (by omega), fun j hj => ?_⟩
  rw [hread j (by omega), List.getElem?_take_of_lt hj]

/-- Between operations the end of a write of which the channel took `bs` (rules R40, R200). -/
theorem endWrite_of_codecIdle {s : State} (h : CodecIdle s) (bs : List Byte) (k m : Nat) :
    endWrite k m (txOut bs (afterAnswer s)) = { s with
      txs := s.txs ++ bs, err := if k < m then .transportError else .none
      answers := s.answers.tail, draws := s.draws + 1 } := by
  obtain ⟨henc, hdec⟩ : (txOut bs (afterAnswer s)).encst = .idle ∧ (txOut bs (afterAnswer s)).decst = .idle := h
  rw [endWrite, henc, hdec, ite_self, ite_self, ← henc, ← hdec]
  rfl

/-- A number in range that stands in the queue is the answer (rule R201). -/
theorem channelAnswer_of_queued {k m : Nat} (h : k ≤ m) (s : State) :
    channelAnswer m { s with answers := [k] } = k :=
  Nat.min_eq_left h

theorem execTxsend_of_no_frame {s : State} (h : s.txrdy = false) : execTxsend s = .next (raise .illegalOp s) :=
  if_neg (Bool.eq_false_iff.1 h)

theorem execTxsend_of_frame {s : State} {frame : List Byte} (h : s.txrdy = true)
    (hframe : Memory.readRange s.txw 0 s.txwlen.toNat = some frame) :
    execTxsend s = .next (endWrite (channelAnswer s.txwlen.toNat s) s.txwlen.toNat
      (txOut (frame.take (channelAnswer s.txwlen.toNat s)) (afterAnswer s))) := by
  rw [execTxsend, if_pos h, Memory.readRange_take hframe (channelAnswer_le _ s)]

/-- Settles O39: the bytes that go out are the first of the frame's, and the end of the write is ERR alone. -/
theorem txsendSendsWhatTheChannelTakes : Obligations.TxsendSendsWhatTheChannelTakes := by
  refine ⟨fun w h => decodeCmd_of_opcode h (by decide), fun s hidle h => ?_, fun s frame hidle h hframe => ?_,
    fun s m => channelAnswer_le m s, fun s m k h => channelAnswer_of_queued h s⟩
  · rw [exec, execTxsend_of_no_frame h, raise_of_codecIdle hidle]
  · rw [exec, execTxsend_of_frame h hframe, endWrite_of_codecIdle hidle]

/-- Settles O40: of one byte the channel takes none or it. -/
theorem primeSendsOneRawByte : Obligations.PrimeSendsOneRawByte := by
  refine ⟨fun w h => decodeCmd_of_opcode h (by decide), fun s hidle => ?_⟩
  have hanswer : channelAnswer 1 s = 0 ∨ channelAnswer 1 s = 1 :=
    Nat.le_one_iff_eq_zero_or_eq_one.1 (channelAnswer_le 1 s)
  refine ⟨hanswer, ?_⟩
  rw [exec, execPrime, endWrite_of_codecIdle hidle]
  rcases hanswer with h | h
  · simp [h]
  · rw [h]
    rfl

/-- Settles O41: the effect is RXARM's definition. -/
theorem rxarmStartsACollection : Obligations.RxarmStartsACollection :=
  ⟨fun _ h => decodeCmd_of_opcode h (by decide), fun _ => rfl⟩

theorem execRxstop_of_armed {s : State} (h : s.rxarmed = true) :
    execRxstop s = .next { s with rxarmed := false, rxdone := true, err := .none } := by
  rw [execRxstop, if_pos h]
  rfl

theorem execRxstop_of_unarmed {s : State} (h : s.rxarmed = false) : execRxstop s = .next { s with err := .none } := by
  rw [execRxstop, if_neg (Bool.eq_false_iff.1 h)]
  rfl

/-- Settles O42: armed and unarmed. -/
theorem rxstopEndsACollection : Obligations.RxstopEndsACollection :=
  ⟨fun _ h => decodeCmd_of_opcode h (by decide), fun _ => ⟨execRxstop_of_armed, execRxstop_of_unarmed⟩⟩

/-- What the commands but RXSTOP, RXARM and RESET can touch while a collection is armed: DECODE is refused (rules R171,
R207). -/
theorem exec_command_frame_of_armed {i : Instr} {s t : State} (hi : i.isCommand = true) (hrxstop : i ≠ .rxstop)
    (hrxarm : i ≠ .rxarm) (hreset : i ≠ .reset) (harmed : s.rxarmed = true) (h : exec i s = .next t) :
    t = { s with
      txrdy := t.txrdy, err := t.err, txw := t.txw, txwlen := t.txwlen, csacc := t.csacc, txs := t.txs
      encst := t.encst, decst := t.decst, pi := t.pi, answers := t.answers, draws := t.draws } := by
  cases i with
  | nop | prime | csclr | csadd imm | reserved op => cases h; rfl
  | encode => rw [execEncode_frame h]
  | decode =>
    rw [exec, execDecode_of_refused (decodeRefused_iff.2 (.inl harmed))] at h
    cases h
    rfl
  | txsend =>
    obtain ⟨bs, ht⟩ := execTxsend_frame h
    rw [ht]
  | rxstop => exact absurd rfl hrxstop
  | rxarm => exact absurd rfl hrxarm
  | reset => exact absurd rfl hreset
  | rxbyte b | delim | esc11 | esc13 | esc7d | esc7e | lit b => cases hi

/-- Settles O51: no command but the three writes what the collector gathers. -/
theorem commandsLeaveAnArmedCollectionAlone : Obligations.CommandsLeaveAnArmedCollectionAlone := by
  intro i s t hi hrxstop hrxarm hreset harmed h
  rw [exec_command_frame_of_armed hi hrxstop hrxarm hreset harmed h]
  exact ⟨harmed, rfl, rfl, rfl, rfl, rfl, rfl⟩

end Sys2Proof.Machine
end

section
/-! ## The collector (rules R35, R204, R205)

Bytes are dropped unarmed; armed they are stored and counted, and each is followed by the two tests of closing. -/

namespace Sys2Proof.Machine

/-! ### Bytes stored and counted -/

/-- `bs` behind what RXB[0..RXLEN) holds, and its delimiters in DCNT. -/
def gathered (bs : List Byte) (s : State) : State :=
  { s with
    rxb := Memory.writeRange s.rxb s.rxlen.toNat bs
    rxlen := s.rxlen + BitVec.ofNat 16 bs.length
    dcnt := s.dcnt + BitVec.ofNat 2 (bs.count Config.delim) }

theorem gathered_nil (s : State) : gathered [] s = s := by
  simp [gathered, Memory.writeRange]

theorem gathered_singleton (b : Byte) (s : State) :
    gathered [b] s = countByte b { s with rxb := Memory.write s.rxb s.rxlen.toNat b } := by
  by_cases hb : b = Config.delim
  · rw [countByte, if_pos hb, hb]
    rfl
  · rw [countByte, if_neg hb, gathered, List.count_singleton, beq_false_of_ne hb]
    simp [Memory.writeRange]

/-- RXLEN counts on, where the bytes fit. -/
theorem toNat_rxlen_gathered {bs : List Byte} {s : State} (h : s.rxlen.toNat + bs.length ≤ 522) :
    (gathered bs s).rxlen.toNat = s.rxlen.toNat + bs.length := by
  simp only [gathered, BitVec.toNat_add, BitVec.toNat_ofNat]
  omega

/-- DCNT counts on, where its two bits are enough. -/
theorem toNat_dcnt_gathered {bs : List Byte} {s : State} (h : s.dcnt.toNat + bs.count Config.delim < 4) :
    (gathered bs s).dcnt.toNat = s.dcnt.toNat + bs.count Config.delim := by
  simp only [gathered, BitVec.toNat_add, BitVec.toNat_ofNat]
  omega

theorem gathered_append {l : List Byte} {s : State} (h : s.rxlen.toNat + l.length ≤ 522) (r : List Byte) :
    gathered r (gathered l s) = gathered (l ++ r) s := by
  rw [gathered, toNat_rxlen_gathered h]
  simp only [gathered, Memory.writeRange_append, List.length_append, List.count_append, BitVec.ofNat_add,
    BitVec.add_assoc]

/-! ### One byte -/

theorem collect_of_unarmed {s : State} (h : s.rxarmed = false) (b : Byte) : collect b s = .next s :=
  if_neg (Bool.eq_false_iff.1 h)

theorem collect_of_armed {s : State} (harmed : s.rxarmed = true) (hroom : s.rxlen.toNat < 522) (b : Byte) :
    collect b s = .next (closeIfDone (gathered [b] s)) :=
  collect_eq_next.2 (.inr ⟨harmed, hroom, by rw [gathered_singleton]⟩)

theorem closeIfDone_of_two {s : State} (h : s.dcnt = 2) : closeIfDone s = flagsClose s :=
  if_pos h

theorem closeIfDone_of_full {s : State} (hdcnt : s.dcnt ≠ 2) (hfull : s.rxlen.toNat = 522) :
    closeIfDone s = flagsCloseFull s :=
  (if_neg hdcnt).trans (if_pos hfull)

theorem closeIfDone_of_open {s : State} (hdcnt : s.dcnt ≠ 2) (hroom : s.rxlen.toNat ≠ 522) : closeIfDone s = s :=
  (if_neg hdcnt).trans (if_neg hroom)

@[simp] theorem closeIfDone_rxb (s : State) : (closeIfDone s).rxb = s.rxb := by rw [closeIfDone_frame]
@[simp] theorem closeIfDone_rxlen (s : State) : (closeIfDone s).rxlen = s.rxlen := by rw [closeIfDone_frame]
@[simp] theorem closeIfDone_dcnt (s : State) : (closeIfDone s).dcnt = s.dcnt := by rw [closeIfDone_frame]

/-- Settles O43: the byte is stored and counted; then the two tests of closing. -/
theorem rxbyteStoresCountsAndCloses : Obligations.RxbyteStoresCountsAndCloses := by
  refine ⟨fun s hs harmed => (hs.armed harmed).1, fun b s => ⟨fun h => collect_of_unarmed h b, fun harmed hroom => ?_⟩⟩
  have hstep := collect_of_armed harmed hroom b
  rw [gathered_singleton] at hstep
  refine ⟨_, hstep, ?_, fun i => ?_, ?_⟩
  · rw [closeIfDone_rxb]
    exact closeIfDone_frame _
  · rw [closeIfDone_rxb]
    exact Memory.read_write s.rxb s.rxlen.toNat i b
  · rw [closeIfDone_dcnt, closeIfDone_rxlen]
    refine ⟨fun htwo => ?_, fun htwo hfull => ?_, fun htwo hopen => ?_⟩
    · rw [closeIfDone_of_two htwo]
      exact ⟨rfl, rfl, rfl⟩
    · rw [closeIfDone_of_full htwo hfull]
      exact ⟨rfl, rfl, rfl⟩
    · rw [closeIfDone_of_open htwo hopen]
      exact ⟨harmed, rfl, rfl⟩

/-! ### Bytes one after another -/

theorem collectAll_of_unarmed {s : State} (h : s.rxarmed = false) (bs : List Byte) : collectAll bs s = .next s := by
  induction bs with
  | nil => rfl
  | cons b bs ih => rw [collectAll, collect_of_unarmed h, andThen_next, ih]

theorem collectAll_append (l r : List Byte) (s : State) :
    collectAll (l ++ r) s = andThen (collectAll l s) (collectAll r) := by
  induction l generalizing s with
  | nil => rfl
  | cons b l ih =>
    rw [List.cons_append, collectAll, collectAll, andThen_assoc]
    exact congrArg (andThen (collect b s)) (funext ih)

theorem collectAll_singleton (b : Byte) (s : State) : collectAll [b] s = collect b s := by
  rw [collectAll]
  cases collect b s <;> rfl

/-- A full buffer closes the collection: what stays armed has room. -/
theorem rxlen_lt_of_closeIfDone_armed {s : State} (hlen : s.rxlen.toNat ≤ 522) (h : (closeIfDone s).rxarmed = true) :
    s.rxlen.toNat < 522 := by
  refine lt_of_le_of_ne hlen fun hfull => ?_
  by_cases htwo : s.dcnt = 2
  · rw [closeIfDone_of_two htwo] at h
    cases h
  · rw [closeIfDone_of_full htwo hfull] at h
    cases h

/-- The collector takes every byte sequence, if it has room for a byte while it is armed (rules R41, R204). -/
theorem exists_collectAll {s : State} (hroom : s.rxarmed = true → s.rxlen.toNat < 522) (bs : List Byte) :
    ∃ t, collectAll bs s = .next t := by
  induction bs generalizing s with
  | nil => exact ⟨s, rfl⟩
  | cons b bs ih =>
    cases harmed : s.rxarmed with
    | false => exact ⟨s, collectAll_of_unarmed harmed _⟩
    | true =>
      have hlt := hroom harmed
      have hlen := (toNat_rxlen_gathered (bs := [b]) hlt).trans_le hlt
      rw [collectAll, collect_of_armed harmed hlt, andThen_next]
      refine ih fun h => ?_
      rw [closeIfDone_rxlen]
      exact rxlen_lt_of_closeIfDone_armed hlen h

/-- Settles O38: between operations a symbol is its bytes, and the collector takes them. -/
theorem wireSymbolsOnTheChannel : Obligations.WireSymbolsOnTheChannel := by
  intro i s hi hidle hroom
  obtain ⟨t, ht⟩ := exists_collectAll hroom (wireBytes i)
  refine ⟨t, (exec_wire_of_codecIdle hi hidle).trans ht, ht, collectAll_frame ht, fun harmed => ?_⟩
  rw [collectAll_of_unarmed harmed] at ht
  cases ht
  rfl

/-- `bs` neither fills RXB nor brings the second delimiter. -/
structure LeavesOpen (bs : List Byte) (s : State) : Prop where
  delims : s.dcnt.toNat + bs.count Config.delim < 2
  room : s.rxlen.toNat + bs.length < 522

theorem closeIfDone_of_leavesOpen {bs : List Byte} {s : State} (h : LeavesOpen bs s) :
    closeIfDone (gathered bs s) = gathered bs s := by
  obtain ⟨hdelims, hroom⟩ := h
  have hdcnt := toNat_dcnt_gathered (bs := bs) (s := s) (by omega)
  have hlen := toNat_rxlen_gathered (bs := bs) (s := s) (by omega)
  refine closeIfDone_of_open (fun htwo => ?_) (by omega)
  rw [htwo] at hdcnt
  exact absurd hdcnt (Nat.ne_of_gt hdelims)

/-- The collector takes bytes that leave the collection open: they are stored and counted (rule R204). -/
theorem collectAll_of_leavesOpen {bs : List Byte} {s : State} (harmed : s.rxarmed = true) (h : LeavesOpen bs s) :
    collectAll bs s = .next (gathered bs s) := by
  induction bs generalizing s with
  | nil => rw [gathered_nil, collectAll]
  | cons b bs ih =>
    obtain ⟨hdelims, hroom⟩ := h
    rw [← List.singleton_append, List.count_append] at hdelims
    rw [List.length_cons] at hroom
    have hfits : s.rxlen.toNat + [b].length ≤ 522 := by rw [List.length_singleton]; omega
    have hfirst : LeavesOpen [b] s := ⟨by omega, by rw [List.length_singleton]; omega⟩
    have hrest : LeavesOpen bs (gathered [b] s) := by
      refine ⟨?_, ?_⟩
      · rw [toNat_dcnt_gathered (by omega)]
        omega
      · rw [toNat_rxlen_gathered hfits, List.length_singleton]
        omega
    rw [collectAll, collect_of_armed harmed (by omega), andThen_next, closeIfDone_of_leavesOpen hfirst,
      ih (s := gathered [b] s) harmed hrest, gathered_append hfits, List.singleton_append]

/-- The second delimiter closes the collection, RXOVF as it was (rule R204). -/
theorem collectAll_of_second_delim {bs : List Byte} {s : State} (harmed : s.rxarmed = true)
    (hdelims : s.dcnt.toNat + bs.count Config.delim = 1) (hroom : s.rxlen.toNat + bs.length < 522) :
    collectAll (bs ++ [Config.delim]) s = .next (flagsClose (gathered (bs ++ [Config.delim]) s)) := by
  have hlen := toNat_rxlen_gathered (bs := bs) (s := s) (by omega)
  have hcount : s.dcnt.toNat + (bs ++ [Config.delim]).count Config.delim = 2 := by
    rw [List.count_append, List.count_singleton_self, ← Nat.add_assoc, hdelims]
  have htwo : (gathered (bs ++ [Config.delim]) s).dcnt = 2 :=
    BitVec.eq_of_toNat_eq ((toNat_dcnt_gathered (by omega)).trans hcount)
  rw [collectAll_append, collectAll_of_leavesOpen harmed ⟨by omega, hroom⟩, andThen_next, collectAll_singleton,
    collect_of_armed (s := gathered bs s) harmed (by omega), gathered_append (by omega), closeIfDone_of_two htwo]

end Sys2Proof.Machine
end

section
/-! ## What DECODE makes of a collection (rules R204, R209, R210)

A wire frame has two delimiters, its first and its last byte, so a collection that gathers one closes on its last byte;
and fewer than two delimiters are not both ends of a buffer. -/

namespace Sys2Proof.Machine

/-! ### Fewer than two delimiters -/

theorem two_le_count_of_headerOk {raw : List Byte} (h : headerOk raw = true) : 2 ≤ raw.count Config.delim := by
  simp only [headerOk, Bool.and_eq_true, decide_eq_true_eq, beq_iff_eq] at h
  obtain ⟨⟨hmin, hfirst⟩, hlast⟩ := h
  match raw with
  | [] => cases hfirst
  | [_] => simp [Config.minLen] at hmin
  | d :: x :: body =>
    obtain rfl : d = Config.delim := Option.some.inj hfirst
    rw [List.getLast?_cons_cons] at hlast
    have hpos := List.count_pos_iff.2 (List.mem_of_getLast? hlast)
    rw [List.count_cons_self]
    omega

/-- A buffer with fewer than two delimiters fails step 1 (rule R173). -/
theorem exec_decode_of_few_delims {raw : List Byte} {s : State} (harmed : s.rxarmed = false)
    (hcap : s.rxlen.toNat ≤ 522) (hraw : Memory.readRange s.rxb 0 s.rxlen.toNat = some raw)
    (hcount : raw.count Config.delim < 2) :
    ∃ u, exec .decode s = .next u ∧ u.err = .frameError ∧ u.rxvalid = false := by
  rcases headerPasses_or_fails hraw with ⟨hok, -⟩ | ⟨-, hfails⟩
  · have hle := two_le_count_of_headerOk hok
    omega
  · exact ⟨_, execDecode_of_headerFails harmed hcap hfails, rfl, rfl⟩

/-- A byte that ends a collection with RXOVF leaves RXB full, and fewer than two delimiters in it. -/
theorem exec_decode_of_overflow {b : Byte} {s : State} (hs : Inv s) (harmed : s.rxarmed = true)
    (hovf : (closeIfDone (gathered [b] s)).rxovf = true) :
    ∃ u, exec .decode (closeIfDone (gathered [b] s)) = .next u ∧ u.err = .frameError ∧ u.rxvalid = false := by
  have hopen := hs.armed harmed
  obtain ⟨bs, hread, hcount⟩ := hopen.store b
  obtain ⟨hroom, hdelims, hdone, -, -⟩ := hopen
  have hclear : s.rxovf ≠ true := fun h => nomatch hdone.symm.trans (hs.overflow h)
  have htwo : (gathered [b] s).dcnt ≠ 2 := fun h => hclear (by rwa [closeIfDone_of_two h] at hovf)
  have hfull : (gathered [b] s).rxlen.toNat = 522 := by
    by_contra h
    rw [closeIfDone_of_open htwo h] at hovf
    exact hclear hovf
  have hdcnt : (gathered [b] s).dcnt.toNat = bs.count Config.delim := by rwa [gathered_singleton]
  have hfew : (gathered [b] s).dcnt.toNat < 2 := by
    have hone : [b].count Config.delim ≤ 1 := List.count_le_length
    have hsum := toNat_dcnt_gathered (bs := [b]) (s := s) (by omega)
    have hne : (gathered [b] s).dcnt.toNat ≠ 2 := fun h => htwo (BitVec.eq_of_toNat_eq h)
    omega
  rw [closeIfDone_of_full htwo hfull]
  exact exec_decode_of_few_delims (s := flagsCloseFull (gathered [b] s)) rfl hfull.le hread (by omega)

/-- Settles O44: DECODE finds the bytes gathered, fewer than two of them delimiters. -/
theorem stoppedCollectionNeverDecodes : Obligations.StoppedCollectionNeverDecodes := by
  refine ⟨fun s hs harmed => ?_, fun b s hs harmed => ?_⟩
  · obtain ⟨hroom, hdcnt, -, -, bs, hread, hcount⟩ := hs.armed harmed
    obtain ⟨u, hu⟩ := exec_decode_of_few_delims (s := { s with rxarmed := false, rxdone := true, err := .none }) rfl
      (Nat.le_of_lt hroom) hread (by omega)
    exact ⟨_, u, execRxstop_of_armed harmed, hu⟩
  · exact ⟨_, collect_of_armed harmed (hs.armed harmed).1 b, exec_decode_of_overflow hs harmed⟩

/-! ### A wire frame -/

theorem not_mem_escapeAll_delim (l : List Byte) : Config.delim ∉ escapeAll l := fun h => by
  rcases eq_marker_or_not_special_of_mem_escapeAll h with h | h <;> cases h

theorem stuff_eq_concat (a c : Byte) (p : List Byte) :
    stuff a c p = Config.delim :: escapeAll (logicalBody a c p) ++ [Config.delim] := rfl

theorem count_delim_opened (l : List Byte) : (Config.delim :: escapeAll l).count Config.delim = 1 := by
  rw [List.count_cons_self, List.count_eq_zero_of_not_mem (not_mem_escapeAll_delim l)]

/-- An empty collection gathers a wire frame whole, and closes on its last byte (rule R210). -/
theorem collectAll_stuff {a c : Byte} {p : List Byte} {s : State} (hp : p.length ≤ 255) (harmed : s.rxarmed = true)
    (hrxlen : s.rxlen = 0) (hdcnt : s.dcnt = 0) :
    collectAll (stuff a c p) s = .next (flagsClose (gathered (stuff a c p) s)) := by
  have hlen := (length_stuff_bounds (a := a) (c := c) hp).2
  rw [stuff_eq_concat, List.length_append, List.length_singleton] at hlen
  have hzero : s.rxlen.toNat = 0 := by rw [hrxlen]; rfl
  rw [stuff_eq_concat]
  refine collectAll_of_second_delim harmed ?_ (by omega)
  rw [count_delim_opened, hdcnt]
  rfl

/-- Settles O45: the frame is gathered whole, and its body is the escaped form of the logical body. -/
theorem cleanReplyIsCollectedAndDecoded : Obligations.CleanReplyIsCollectedAndDecoded := by
  intro s a c p hp harmed hrxlen hdcnt
  obtain ⟨-, hmax⟩ := length_stuff_bounds (a := a) (c := c) hp
  have hzero : s.rxlen.toNat = 0 := by rw [hrxlen]; rfl
  have hlen : (flagsClose (gathered (stuff a c p) s)).rxlen.toNat = (stuff a c p).length :=
    (toNat_rxlen_gathered (by omega)).trans (by rw [hzero, Nat.zero_add])
  have hread : Memory.readRange (flagsClose (gathered (stuff a c p) s)).rxb 0
      (flagsClose (gathered (stuff a c p) s)).rxlen.toNat = some (stuff a c p) := by
    rw [hlen, flagsClose_rxb, gathered, hzero]
    exact Memory.readRange_writeRange _ _ _
  have hdecode := exec_decode_of_logicalBody (s := flagsClose (gathered (stuff a c p) s)) rfl (by omega) hread
    (headerOk_stuff a c p) (unescape_tail_stuff a c p) hp
  exact ⟨_, _, collectAll_stuff hp harmed hrxlen hdcnt, rfl, rfl, rfl, hlen, by omega, hread, hdecode, rfl, rfl, rfl,
    rfl, rfl, readRange_payload_decodeResult a c p _⟩

end Sys2Proof.Machine
end

section
/-! ## The caller's response buffer (rules R237, R238)

No operation and no host access touches what the host's software holds; a move of the session leaves the caller's buffer, or
copies one byte below the length that fits. -/

namespace Sys2Proof.Machine

theorem exec_session {i : Instr} {s t : State} (h : exec i s = .next t) : t.session = s.session := by
  rcases exec_cases h with ⟨-, ht⟩ | ⟨-, ht⟩ | ⟨-, ht, -⟩ | ⟨-, bs, ht⟩ | ⟨-, ht⟩ | ⟨ht, -⟩
  · rw [ht, resetBlock_session]
  all_goals rw [ht]

theorem hostAccess_session {a : Access} {s t : State} (h : hostAccess a s = .next t) : t.session = s.session := by
  cases ha : a.isCommandWrite with
  | false => rw [hostAccess_frame ha h]
  | true =>
    match a with
    | .regWrite 0 v =>
      rcases hostRegWrite_cases h with ⟨w, -, -, h⟩ | ⟨a, c, l, rfl⟩ | ⟨-, w, rfl⟩
      · exact exec_session h
      · rfl
      · rfl

theorem serveWire_session {bs : List Byte} {s t : State} (h : serveWire bs s = .next t) : t.session = s.session := by
  unfold serveWire at h
  split at h
  · exact exec_session h
  · rw [collectAll_frame h]

/-- A move that starts no copy. -/
def HostAct.isCopy : HostAct → Bool
  | .copy _ _ => true
  | .access _ | .checkSend _ | .poll | .rawResult | .checkDecode | .statusTest | .capacityTest | .finish _ => false

theorem isCopy_of_mem_payloadWrites {p : List Byte} {i : Nat} {m : HostAct} (h : m ∈ payloadWrites i p) :
    m.isCopy = false := by
  induction p generalizing i with
  | nil => cases h
  | cons b p ih =>
    rcases List.mem_cons.1 h with rfl | h
    · rfl
    · exact ih h

theorem isCopy_of_mem_sendActs {a c : Byte} {p : List Byte} {x : Bool} {m : HostAct} (h : m ∈ sendActs a c p x) :
    m.isCopy = false := by
  simp only [sendActs, List.mem_cons, List.mem_append, List.not_mem_nil, or_false] at h
  rcases h with rfl | rfl | rfl | h | rfl | rfl | rfl
  case inr.inr.inr.inl => exact isCopy_of_mem_payloadWrites h
  all_goals rfl

/-- A call starts with no copy pending. -/
theorem isCopy_of_mem_expansion {k : SessionCall} {m : HostAct} (h : m ∈ expansion k) : m.isCopy = false := by
  cases k with
  | send a c p =>
    rcases List.mem_append.1 h with h | h
    · exact isCopy_of_mem_sendActs h
    · cases List.mem_singleton.1 h
      rfl
  | sendAndReceive a c p buf =>
    rcases List.mem_cons.1 h with rfl | h
    · rfl
    rcases List.mem_append.1 h with h | h
    · exact isCopy_of_mem_sendActs h
    · simp only [List.mem_cons, List.not_mem_nil, or_false] at h
      rcases h with rfl | rfl | rfl | rfl | rfl | rfl <;> rfl
  | receiveFrame =>
    simp only [expansion, List.mem_cons, List.not_mem_nil, or_false] at h
    rcases h with rfl | rfl | rfl <;> rfl
  | activateTransport =>
    simp only [expansion, List.mem_cons, List.not_mem_nil, or_false] at h
    rcases h with rfl | rfl | rfl <;> rfl

/-- The buffer as it was, and no copy pending but those that were: nothing can be overrun that could not before. -/
theorem CallerBufferSafe.of_todo {s t : State} (h : CallerBufferSafe s) (hresp : t.session.resp = s.session.resp)
    (hcap : t.session.capacity = s.session.capacity)
    (htodo : ∀ m ∈ t.session.todo, m.isCopy = false ∨ m ∈ s.session.todo) : CallerBufferSafe t := by
  obtain ⟨hbuf, hcopy⟩ := h
  refine ⟨by rwa [hresp, hcap], fun i n hm => ?_⟩
  rw [hcap]
  exact (htodo _ hm).elim nofun (hcopy i n)

theorem CallerBufferSafe.of_session {s t : State} (h : CallerBufferSafe s) (hsession : t.session = s.session) :
    CallerBufferSafe t :=
  h.of_todo (by rw [hsession]) (by rw [hsession]) fun _ hm => .inr (hsession ▸ hm)

theorem CallerBufferSafe.return {s : State} (h : CallerBufferSafe s) (r : SessionResult) :
    CallerBufferSafe (sessionReturn r s) :=
  h.of_todo rfl rfl nofun

theorem CallerBufferSafe.go {s : State} (h : CallerBufferSafe s) {m : HostAct} {rest : List HostAct}
    (htodo : s.session.todo = m :: rest) : CallerBufferSafe (sessionGo rest s) :=
  h.of_todo rfl rfl fun _ hm => .inr (htodo ▸ List.mem_cons_of_mem m hm)

theorem CallerBufferSafe.afterSend {s : State} (h : CallerBufferSafe s) {m : HostAct} {rest : List HostAct}
    (htodo : s.session.todo = m :: rest) (x : Bool) : CallerBufferSafe (afterSend x rest s) := by
  unfold Machine.afterSend
  split
  · exact h.go htodo
  split
  · refine h.of_todo rfl rfl fun m hm => .inl ?_
    simp only [sessionGo_session, List.mem_cons, List.not_mem_nil, or_false] at hm
    rcases hm with rfl | rfl <;> rfl
  · exact h.return _

/-- The copy begins only where the payload fits (rule R237). -/
theorem callerBufferSafe_of_capacityTest {s t : State} (hs : CallerBufferSafe s) (h : sessionCapacityTest s = .next t) :
    CallerBufferSafe t := by
  obtain ⟨u, hu, h⟩ := andThen_eq_next.1 h
  have hsafe := hs.of_session (hostAccess_session hu)
  cases h
  split
  · exact hsafe.return _
  next hfits =>
    refine ⟨hsafe.1, fun i n hm => ?_⟩
    cases List.mem_singleton.1 hm
    exact Nat.not_lt.1 hfits

/-- Byte i of n goes to index i, and n fits (rule R238). -/
theorem callerBufferSafe_of_copy {i n : Nat} {rest : List HostAct} {s t : State} (hs : CallerBufferSafe s)
    (htodo : s.session.todo = .copy i n :: rest) (h : sessionCopy i n s = .next t) : CallerBufferSafe t := by
  have hfits : n ≤ s.session.capacity := hs.2 i n (htodo ▸ List.mem_cons_self)
  unfold sessionCopy at h
  split at h
  next hi =>
    split at h
    · cases h
    next b hb =>
    obtain ⟨u, hu, h⟩ := andThen_eq_next.1 h
    have hsession := hostAccess_session hu
    cases h
    refine ⟨fun c hc => ?_, fun j k hm => ?_⟩
    · rw [hsession] at hc ⊢
      rcases Memory.mem_write hc with rfl | hc
      · exact hi.trans_le hfits
      · exact hs.1 c hc
    · cases List.mem_singleton.1 hm
      rw [hsession]
      exact hfits
  · cases h
    exact hs.return _

/-- A move that is an access and then an update `k` of what the host's software holds. -/
theorem callerBufferSafe_of_access_then {a : Access} {k : State → State} {s t : State} (hs : CallerBufferSafe s)
    (hk : ∀ u, u.session = s.session → CallerBufferSafe u → CallerBufferSafe (k u))
    (h : andThen (hostAccess a s) (fun u => .next (k u)) = .next t) : CallerBufferSafe t := by
  obtain ⟨u, hu, h⟩ := andThen_eq_next.1 h
  have hsession := hostAccess_session hu
  cases h
  exact hk u hsession (hs.of_session hsession)

theorem callerBufferSafe_of_turn {s t : State} (hs : CallerBufferSafe s) (h : sessionTurn s = .next t) :
    CallerBufferSafe t := by
  cases htodo : s.session.todo with
  | nil =>
    rw [sessionTurn, htodo] at h
    cases h
    exact hs
  | cons m rest =>
    have left {u : State} (hu : u.session = s.session) : u.session.todo = m :: rest := by rw [hu, htodo]
    rw [sessionTurn, htodo] at h
    cases m with
    | access a => exact callerBufferSafe_of_access_then hs (fun u hu hsafe => hsafe.go (left hu)) h
    | checkSend x => exact callerBufferSafe_of_access_then hs (fun u hu hsafe => hsafe.afterSend (left hu) x) h
    | poll =>
      refine callerBufferSafe_of_access_then hs (fun u hu hsafe => ?_) h
      split
      · exact hsafe.go (left hu)
      · exact hsafe
    | rawResult =>
      obtain ⟨u, hu, h⟩ := andThen_eq_next.1 h
      unfold returnRaw at h
      split at h
      · cases h
      · cases h
        exact (hs.of_session (hostAccess_session hu)).return _
    | checkDecode =>
      refine callerBufferSafe_of_access_then hs (fun u hu hsafe => ?_) h
      split
      · exact hsafe.go (left hu)
      · exact hsafe.return _
    | statusTest =>
      change sessionStatusTest rest s = .next t at h
      unfold sessionStatusTest at h
      split at h
      · cases h
      · cases h
        split
        · exact hs.go htodo
        · exact hs.return _
    | capacityTest => exact callerBufferSafe_of_capacityTest hs h
    | copy i n => exact callerBufferSafe_of_copy hs htodo h
    | finish r =>
      cases h
      exact hs.return r

theorem callSession_todo (k : SessionCall) (ss : Session) : (callSession k ss).todo = expansion k := by
  cases k <;> rfl

/-- A call brings a buffer of its own length, or leaves the one there is (rules R232, R238). -/
theorem callerBufferSafe_of_call {k : SessionCall} {s t : State} (hs : CallerBufferSafe s)
    (h : sessionCall k s = .next t) : CallerBufferSafe t := by
  unfold sessionCall at h
  split at h
  · cases h
  split at h
  · cases h
  cases h
  have hnew : ∀ m ∈ (callSession k s.session).todo, m.isCopy = false := by
    rw [callSession_todo]
    exact fun m => isCopy_of_mem_expansion
  cases k with
  | sendAndReceive a c p buf =>
    refine ⟨fun c hc => ?_, fun i n hm => nomatch hnew _ hm⟩
    have hlt := (mem_callerBuffer hc).2
    rwa [Nat.zero_add] at hlt
  | send | receiveFrame | activateTransport => exact hs.of_todo rfl rfl fun m hm => .inl (hnew m hm)

theorem callerBufferSafe_of_deadline {s : State} (hs : CallerBufferSafe s) : CallerBufferSafe (sessionDeadline s) := by
  unfold sessionDeadline
  split
  next rest htodo =>
    refine hs.of_todo rfl rfl fun m hm => ?_
    rcases List.mem_cons.1 hm with rfl | hm
    · exact .inl rfl
    · exact .inr (htodo ▸ List.mem_cons_of_mem _ hm)
  · exact hs

theorem callerBufferSafe_of_serve {e : Input} {s t : State} (hs : CallerBufferSafe s) (h : serve e s = .next t) :
    CallerBufferSafe t := by
  cases e with
  | host a => exact hs.of_session (hostAccess_session h)
  | rxByte b => exact hs.of_session (exec_session (i := .rxbyte b) h)
  | wire bs => exact hs.of_session (serveWire_session h)
  | hardReset =>
    cases h
    exact hs.of_session (hardwareReset_session s)
  | call k => exact callerBufferSafe_of_call hs h
  | turn => exact callerBufferSafe_of_turn hs h
  | deadline =>
    cases h
    exact callerBufferSafe_of_deadline hs

/-- Settles O59: no event but a call and a move of the session touches the caller's buffer, and these stay inside it. -/
theorem callerBufferIsNeverOverrun : Obligations.CallerBufferIsNeverOverrun := by
  intro s t hs h
  cases hinputs : s.inputs with
  | nil =>
    rw [step_of_inputs_nil hinputs] at h
    cases h
    exact hs
  | cons e rest =>
    rw [step_of_inputs_cons hinputs] at h
    exact callerBufferSafe_of_serve (s := { s with inputs := rest }) (hs.of_session rfl) h

/-- Settles O60: serving the call at the head of the queue makes the two tests in this order. -/
theorem sessionCallsRefused : Obligations.SessionCallsRefused := by
  refine ⟨fun c s rest hinputs hbusy => ?_, fun c s rest hinputs hidle hlong => ?_⟩
  · rw [step_of_inputs_cons hinputs, serve]
    exact if_pos hbusy
  · rw [step_of_inputs_cons hinputs, serve]
    exact (if_neg (not_not.2 hidle)).trans (if_pos hlong)

end Sys2Proof.Machine
end

section
/-! ## Runs, but for the queue and the trace

The queue before a run is known, and the trace of returned values is read by nothing: a run is told by the states it goes
through, whatever these two fields hold. -/

namespace Sys2Proof.Machine

/-- `u` with another queue and another trace. -/
abbrev State.given (u : State) (queue : List Input) (log : List PortValue) : State :=
  { u with inputs := queue, portLog := log }

/-- Whatever stands in the queue and the trace of `u`, `f` answers a state of `V`, the queue as it was. -/
def Answers (f : State → Res) (u : State) (V : State → Prop) : Prop :=
  ∀ (queue : List Input) (log : List PortValue), ∃ v, V v ∧ ∃ log' : List PortValue,
    f (u.given queue log) = .next (v.given queue log')

/-- Before `u` stand the events `l`: the machine serves them all and comes to a state of `V`. -/
def Leads (l : List Input) (u : State) (V : State → Prop) : Prop :=
  ∀ (rest : List Input) (log : List PortValue), ∃ v, V v ∧ ∃ log' : List PortValue,
    Host.Core.run core l.length (u.given (l ++ rest) log) =
      .next (v.given rest log')

theorem answers_of_eq {f : State → Res} {u v : State}
    (h : ∀ (queue : List Input) (log : List PortValue),
      f (u.given queue log) = .next (v.given queue log)) :
    Answers f u (Eq v) := fun queue log => ⟨v, rfl, log, h queue log⟩

theorem Answers.imp {f : State → Res} {u : State} {V W : State → Prop} (h : Answers f u V) (hVW : ∀ v, V v → W v) :
    Answers f u W := fun queue log =>
  let ⟨v, hv, hf⟩ := h queue log
  ⟨v, hVW v hv, hf⟩

theorem Answers.andThen {f g : State → Res} {u : State} {V W : State → Prop} (hf : Answers f u V)
    (hg : ∀ v, V v → Answers g v W) : Answers (fun s => andThen (f s) g) u W := fun queue log =>
  let ⟨v, hv, log', hfv⟩ := hf queue log
  let ⟨w, hw, log'', hgw⟩ := hg v hv queue log'
  ⟨w, hw, log'', (congrArg (Machine.andThen · g) hfv).trans hgw⟩

theorem run_succ_of_core_step {M : Host.Core} {s t : M.State} (h : M.step s = .next t) (n : Nat) :
    M.run (n + 1) s = M.run n t := by
  rw [Host.Core.run, h]

theorem run_succ_of_step {s t : State} (h : step s = .next t) (n : Nat) :
    Host.Core.run core (n + 1) s = Host.Core.run core n t :=
  run_succ_of_core_step (M := core) (s := s) (t := t) h n

theorem Leads.nil {u : State} {V : State → Prop} (h : V u) : Leads [] u V := fun _ log => ⟨u, h, log, rfl⟩

theorem Leads.cons {e : Input} {l : List Input} {u : State} {V W : State → Prop} (he : Answers (serve e) u V)
    (hl : ∀ v, V v → Leads l v W) : Leads (e :: l) u W := fun rest log =>
  let ⟨v, hv, log', hserve⟩ := he (l ++ rest) log
  let ⟨w, hw, log'', hrun⟩ := hl v hv rest log'
  have hstep : step (u.given (e :: l ++ rest) log) = .next (v.given (l ++ rest) log') :=
    (step_of_inputs_cons rfl).trans hserve
  ⟨w, hw, log'', (run_succ_of_step hstep l.length).trans hrun⟩

theorem run_add {M : Host.Core} {m : Nat} {s t : M.State} (h : M.run m s = .next t) (n : Nat) :
    M.run (m + n) s = M.run n t := by
  induction m generalizing s with
  | zero => cases h; rw [Nat.zero_add]
  | succ m ih =>
    rw [Host.Core.run] at h
    rw [Nat.add_right_comm, Host.Core.run]
    cases hstep : M.step s with
    | next u => rw [hstep] at h; exact ih h
    | fault r => rw [hstep] at h; cases h
    | refused r => rw [hstep] at h; cases h

theorem Leads.append {l m : List Input} {u : State} {V W : State → Prop} (hl : Leads l u V)
    (hm : ∀ v, V v → Leads m v W) : Leads (l ++ m) u W := fun rest log =>
  let ⟨v, hv, log', hrun⟩ := hl (m ++ rest) log
  let ⟨w, hw, log'', hrun'⟩ := hm v hv rest log'
  ⟨w, hw, log'', by
    rw [List.append_assoc, List.length_append]
    exact (run_add (M := core) hrun m.length).trans hrun'⟩

/-- The run of a state before which `l` stands. -/
theorem Leads.run {l rest : List Input} {n : Nat} {s : State} {V : State → Prop} (h : Leads l s V)
    (hinputs : s.inputs = l ++ rest) (hn : n = l.length) :
    ∃ v, V v ∧ ∃ log : List PortValue, Host.Core.run core n s = .next (v.given rest log) := by
  have hs := h rest s.portLog
  rw [← hinputs, ← hn] at hs
  exact hs

end Sys2Proof.Machine
end

section
/-! ## The session's moves

What a turn does with the move that is next (rules R230 to R238). A read changes nothing but the trace. -/

namespace Sys2Proof.Machine

theorem answers_regRead {n : Nat} (hn : n ≤ 13) (u : State) : Answers (hostAccess (.regRead n)) u (Eq u) :=
  fun queue log =>
  let ⟨v, hv, _⟩ := exists_regValue hn (u.given queue log)
  ⟨u, rfl, log ++ [v], hostRegRead_of_regValue hv⟩

theorem answers_bufRead {sp : Space} {i : Nat} {b : Byte} {u : State} (hi : i < sp.size)
    (hb : Memory.read (u.mem sp) i = some b) : Answers (hostAccess (.bufRead sp i)) u (Eq u) := fun queue log =>
  have hread : Memory.read ((u.given queue log).mem sp) i = some b := by cases sp <;> exact hb
  ⟨u, rfl, log ++ [PortValue.byte b], hostBufRead_of_read hi hread⟩

/-- A move that is a register read and then `g`. -/
theorem Answers.of_regRead {n : Nat} {g : State → Res} {u : State} {V : State → Prop} (hn : n ≤ 13)
    (hg : Answers g u V) :
    Answers (fun s => Machine.andThen (hostAccess (.regRead n) s) g) u V :=
  (answers_regRead hn u).andThen fun _ hv => hv ▸ hg

section
variable {u : State} {rest : List HostAct}

/-- Where the moves still to make are known, a turn is the first of them. -/
theorem Answers.turn {f : State → Res} {V : State → Prop} (h : Answers f u V) {todo : List HostAct}
    (htodo : u.session.todo = todo) (hturn : ∀ x : State, x.session.todo = todo → sessionTurn x = f x) :
    Answers (serve .turn) u V := fun queue log =>
  let ⟨v, hv, log', hf⟩ := h queue log
  ⟨v, hv, log', (hturn (u.given queue log) htodo).trans hf⟩

theorem answers_turn_idle (htodo : u.session.todo = []) : Answers (serve .turn) u (Eq u) :=
  (answers_of_eq (f := .next) fun _ _ => rfl).turn htodo fun x hx => by rw [sessionTurn, hx]

theorem answers_turn_access {a : Access} {V W : State → Prop} (htodo : u.session.todo = .access a :: rest)
    (h : Answers (hostAccess a) u V) (hW : ∀ v, V v → W (sessionGo rest v)) : Answers (serve .turn) u W :=
  (h.andThen fun v hv => (answers_of_eq (f := fun t => .next (sessionGo rest t)) fun _ _ => rfl).imp
    fun _ hw => hw ▸ hW v hv).turn htodo fun x hx => by rw [sessionTurn, hx]

theorem answers_turn_access_eq {a : Access} {v : State} (htodo : u.session.todo = .access a :: rest)
    (h : Answers (hostAccess a) u (Eq v)) : Answers (serve .turn) u (Eq (sessionGo rest v)) :=
  answers_turn_access htodo h fun _ hv => hv ▸ rfl

theorem answers_turn_checkSend {x : Bool} (htodo : u.session.todo = .checkSend x :: rest) :
    Answers (serve .turn) u (Eq (afterSend x rest u)) := by
  refine Answers.turn (.of_regRead (by decide : 2 ≤ 13) (answers_of_eq (f := fun t => .next (afterSend x rest t))
    fun _ _ => ?_)) htodo fun y hy => by rw [sessionTurn, hy]
  cases x <;> unfold afterSend <;> split <;> rfl

theorem answers_turn_poll (htodo : u.session.todo = .poll :: rest) :
    Answers (serve .turn) u (Eq (if u.rxdone then sessionGo rest u else u)) := by
  refine Answers.turn (.of_regRead (by decide : 1 ≤ 13) (answers_of_eq
    (f := fun t => .next (if t.rxdone then sessionGo rest t else t)) fun _ _ => ?_)) htodo fun y hy => by
      rw [sessionTurn, hy]
  split <;> rfl

theorem answers_turn_poll_of_open (htodo : u.session.todo = .poll :: rest) (h : u.rxdone = false) :
    Answers (serve .turn) u (Eq u) := by
  have hpoll := answers_turn_poll htodo
  rwa [if_neg (Bool.eq_false_iff.1 h)] at hpoll

theorem answers_turn_poll_of_done (htodo : u.session.todo = .poll :: rest) (h : u.rxdone = true) :
    Answers (serve .turn) u (Eq (sessionGo rest u)) := by
  have hpoll := answers_turn_poll htodo
  rwa [if_pos h] at hpoll

theorem answers_turn_rawResult {bs : List Byte} (htodo : u.session.todo = .rawResult :: rest)
    (hbs : Memory.readRange u.rxb 0 u.rxlen.toNat = some bs) :
    Answers (serve .turn) u (Eq (sessionReturn (.raw bs) u)) := by
  refine Answers.turn (.of_regRead (by decide : 7 ≤ 13) (answers_of_eq (f := returnRaw) fun _ _ => ?_)) htodo
    fun y hy => by rw [sessionTurn, hy]
  rw [returnRaw, hbs]
  rfl

theorem answers_turn_checkDecode (htodo : u.session.todo = .checkDecode :: rest) :
    Answers (serve .turn) u (Eq (if u.err = .none then sessionGo rest u else sessionReturn (.error u.err) u)) := by
  refine Answers.turn (.of_regRead (by decide : 2 ≤ 13) (answers_of_eq
    (f := fun t => .next (if t.err = .none then sessionGo rest t else sessionReturn (.error t.err) t)) fun _ _ => ?_))
    htodo fun y hy => by rw [sessionTurn, hy]
  split <;> rfl

theorem answers_turn_checkDecode_of_none (htodo : u.session.todo = .checkDecode :: rest) (h : u.err = .none) :
    Answers (serve .turn) u (Eq (sessionGo rest u)) := by
  have hcheck := answers_turn_checkDecode htodo
  rwa [if_pos h] at hcheck

theorem answers_turn_checkDecode_of_error (htodo : u.session.todo = .checkDecode :: rest) (h : u.err ≠ .none) :
    Answers (serve .turn) u (Eq (sessionReturn (.error u.err) u)) := by
  have hcheck := answers_turn_checkDecode htodo
  rwa [if_neg h] at hcheck

theorem answers_turn_statusTest {p : List Byte} (htodo : u.session.todo = .statusTest :: rest)
    (hp : Memory.readRange u.rxb 3 u.rxplen.toNat = some p) :
    Answers (serve .turn) u (Eq (if Config.statusOf u.rxadr u.rxcmd u.rxplen p = 0 then sessionGo rest u
      else sessionReturn (.error .unsupportedCommand) u)) := by
  refine Answers.turn (answers_of_eq (f := sessionStatusTest rest) fun _ _ => ?_) htodo
    fun y hy => by rw [sessionTurn, hy]
  rw [sessionStatusTest, hp]
  simp only
  split <;> rfl

theorem answers_turn_statusTest_of_zero {p : List Byte} (htodo : u.session.todo = .statusTest :: rest)
    (hp : Memory.readRange u.rxb 3 u.rxplen.toNat = some p) (h : Config.statusOf u.rxadr u.rxcmd u.rxplen p = 0) :
    Answers (serve .turn) u (Eq (sessionGo rest u)) := by
  have hstatus := answers_turn_statusTest htodo hp
  rwa [if_pos h] at hstatus

theorem answers_turn_statusTest_of_nonzero {p : List Byte} (htodo : u.session.todo = .statusTest :: rest)
    (hp : Memory.readRange u.rxb 3 u.rxplen.toNat = some p) (h : Config.statusOf u.rxadr u.rxcmd u.rxplen p ≠ 0) :
    Answers (serve .turn) u (Eq (sessionReturn (.error .unsupportedCommand) u)) := by
  have hstatus := answers_turn_statusTest htodo hp
  rwa [if_neg h] at hstatus

theorem answers_turn_capacityTest (htodo : u.session.todo = .capacityTest :: rest) :
    Answers (serve .turn) u (Eq (if u.session.capacity < u.rxplen.toNat then sessionReturn (.error .dataError) u
      else sessionGo [.copy 0 u.rxplen.toNat] u)) := by
  refine Answers.turn (f := sessionCapacityTest) (.of_regRead (by decide : 11 ≤ 13) (answers_of_eq fun _ _ => ?_)) htodo
    fun y hy => by rw [sessionTurn, hy]
  split <;> rfl

theorem answers_turn_capacityTest_of_fits (htodo : u.session.todo = .capacityTest :: rest)
    (h : u.rxplen.toNat ≤ u.session.capacity) :
    Answers (serve .turn) u (Eq (sessionGo [.copy 0 u.rxplen.toNat] u)) := by
  have hcapacity := answers_turn_capacityTest htodo
  rwa [if_neg (Nat.not_lt.2 h)] at hcapacity

theorem answers_turn_capacityTest_of_too_long (htodo : u.session.todo = .capacityTest :: rest)
    (h : u.session.capacity < u.rxplen.toNat) :
    Answers (serve .turn) u (Eq (sessionReturn (.error .dataError) u)) := by
  have hcapacity := answers_turn_capacityTest htodo
  rwa [if_pos h] at hcapacity

/-- The caller's buffer after a byte has been copied, and the next one to copy (rule R238). -/
def copied (i n : Nat) (b : Byte) (s : State) : State :=
  { s with session := { s.session with todo := [.copy (i + 1) n], resp := Memory.write s.session.resp i b } }

theorem answers_turn_copy {i n : Nat} {b : Byte} (htodo : u.session.todo = .copy i n :: rest) (hi : i < n)
    (hroom : 3 + i < 522) (hb : Memory.read u.rxb (3 + i) = some b) :
    Answers (serve .turn) u (Eq (copied i n b u)) := fun queue log => by
  have hcopy : Answers (fun s => andThen (hostAccess (.bufRead .rxb (3 + i)) s) fun t => .next (copied i n b t)) u
      (Eq (copied i n b u)) :=
    (answers_bufRead (sp := .rxb) hroom hb).andThen fun v hv => hv ▸ answers_of_eq fun _ _ => rfl
  obtain ⟨v, hv, log', h⟩ := hcopy queue log
  refine ⟨v, hv, log', Eq.trans ?_ h⟩
  rw [serve, sessionTurn, htodo]
  simp only [sessionCopy, if_pos hi, hb]
  rfl

theorem answers_turn_copy_end {n : Nat} (htodo : u.session.todo = .copy n n :: rest) :
    Answers (serve .turn) u (Eq (sessionReturn (.okLength n) u)) := by
  refine Answers.turn (answers_of_eq (f := sessionCopy n n) fun _ _ => ?_) htodo fun y hy => by rw [sessionTurn, hy]
  rw [sessionCopy, if_neg (lt_irrefl n)]
  rfl

theorem answers_turn_finish {r : SessionResult} (htodo : u.session.todo = .finish r :: rest) :
    Answers (serve .turn) u (Eq (sessionReturn r u)) :=
  (answers_of_eq (f := fun s => .next (sessionReturn r s)) fun _ _ => rfl).turn htodo
    fun x hx => by rw [sessionTurn, hx]

/-- A deadline that finds the operation waiting (rule R206). -/
theorem answers_deadline (htodo : u.session.todo = .poll :: rest) :
    Answers (serve .deadline) u (Eq (sessionGo (.access (command 0x00#8 0x05#8) :: rest) u)) := by
  refine answers_of_eq fun queue log => ?_
  rw [serve, sessionDeadline, htodo]
  rfl

theorem answers_call {c : SessionCall} (htodo : u.session.todo = []) (hp : (callPayload c).length ≤ 255) :
    Answers (serve (.call c)) u (Eq { u with session := callSession c u.session }) := by
  refine answers_of_eq fun queue log => ?_
  rw [serve, sessionCall, if_neg (not_not.2 htodo), if_neg (Nat.not_lt.2 (show _ ≤ Config.maxPay from hp))]

end

theorem afterSend_of_none {x : Bool} {rest : List HostAct} {s : State} (h : s.err = .none) :
    afterSend x rest s = sessionGo rest s := if_pos h

theorem afterSend_of_error {rest : List HostAct} {s : State} (h : s.err ≠ .none) :
    afterSend false rest s = sessionReturn (.error .transportError) s := if_neg h

theorem afterSend_of_error_in_exchange {rest : List HostAct} {s : State} (h : s.err ≠ .none) :
    afterSend true rest s = sessionGo [.access (command 0x00#8 0x05#8), .finish (.error .transportError)] s :=
  (if_neg h).trans (if_pos rfl)

end Sys2Proof.Machine
end

section
/-! ## activateTransport (rule R234) -/

namespace Sys2Proof.Machine

theorem Leads.step {e : Input} {l : List Input} {u v : State} {W : State → Prop} (he : Answers (serve e) u (Eq v))
    (hl : Leads l v W) : Leads (e :: l) u W :=
  .cons he fun _ hw => hw ▸ hl

/-- The state PRIME leaves. -/
def primed (s : State) : State :=
  endWrite (channelAnswer 1 s) 1 (txOut (List.replicate (channelAnswer 1 s) Config.primeByte) (afterAnswer s))

theorem answers_prime (u : State) : Answers (hostAccess (command 0x00#8 0x06#8)) u (Eq (primed u)) :=
  answers_of_eq fun _ _ => rfl

/-- What a call of activateTransport comes to, the channel's answer being `k` (rule R234). -/
structure Activated (k : Nat) (s v : State) : Prop where
  txs : v.txs = s.txs ++ if 1 ≤ k then [0xFF#8] else []
  todo : v.session.todo = []
  result : v.session.result = some (if 1 ≤ k then .ok else .error .transportError)

/-- Settles O56: PRIME, the reading of ERR, and the return, or an idle turn where the error has returned. -/
theorem sessionActivateRuns : Obligations.SessionActivateRuns := by
  intro s k ans rest htodo hans hinputs
  have hanswer : channelAnswer 1 s = min k 1 := by rw [channelAnswer, hans]
  have hleads : Leads [.call .activateTransport, .turn, .turn, .turn] s (Activated k s) := by
    refine .step (answers_call htodo (Nat.zero_le _)) (.step (answers_turn_access_eq rfl (answers_prime _))
      (.step (answers_turn_checkSend rfl) ?_))
    by_cases hk : 1 ≤ k
    · rw [Nat.min_eq_right hk] at hanswer
      rw [afterSend_of_none (if_neg (by exact Nat.not_lt.2 hanswer.ge))]
      refine .step (answers_turn_finish rfl) (.nil ⟨?_, rfl, by rw [if_pos hk]; rfl⟩)
      rw [if_pos hk]
      exact congrArg (fun n => s.txs ++ List.replicate n Config.primeByte) hanswer
    · obtain rfl : k = 0 := by omega
      rw [afterSend_of_error (ne_of_eq_of_ne (if_pos (by exact Nat.lt_one_iff.2 hanswer)) (by decide))]
      refine .step (answers_turn_idle rfl) (.nil ⟨?_, rfl, rfl⟩)
      exact congrArg (fun n => s.txs ++ List.replicate n Config.primeByte) hanswer
  obtain ⟨v, ⟨htxs, htodo', hresult⟩, log, hrun⟩ := hleads.run (rest := rest) hinputs rfl
  exact ⟨_, hrun, rfl, htxs, htodo', hresult⟩

end Sys2Proof.Machine
end

section
/-! ## Turns among received bytes -/

namespace Sys2Proof.Machine

/-- `P bs` of a state that has taken the bytes `bs`: it takes one more. -/
def TakesBytes (P : List Byte → State → Prop) : Prop :=
  ∀ bs b u, P bs u → Answers (serve (.rxByte b)) u (P (bs ++ [b]))

/-- `n` turns, and received bytes anywhere among them that make `bs` up to `all`, lead from `P bs` to `V`. -/
def Interleaves (all : List Byte) (n : Nat) (P : List Byte → State → Prop) (V : State → Prop) : Prop :=
  ∀ (mid : List Input) (bs : List Byte) (u : State), TurnsAndBytes mid → mid.count .turn = n →
    bs ++ receivedBytes mid = all → P bs u → Leads mid u V

section
variable {all : List Byte} {n : Nat} {P P' : List Byte → State → Prop} {V : State → Prop}

theorem Interleaves.zero (hbyte : TakesBytes P) (hV : ∀ u, P all u → V u) : Interleaves all 0 P V := by
  intro mid
  induction mid with
  | nil =>
    intro bs u _ _ hall hu
    rw [← hall] at hV
    exact .nil (hV u ((List.append_nil bs).symm ▸ hu))
  | cons e mid ih =>
    intro bs u hmid hcount hall hu
    rcases hmid e List.mem_cons_self with rfl | ⟨b, rfl⟩
    · rw [List.count_cons_self] at hcount
      cases hcount
    · have htail : TurnsAndBytes mid := fun e he => hmid e (List.mem_cons_of_mem _ he)
      refine .cons (hbyte bs b u hu) fun v hv => ih (bs ++ [b]) v htail hcount ?_ hv
      rw [List.append_assoc]
      exact hall

theorem Interleaves.succ (hbyte : TakesBytes P)
    (hturn : ∀ bs u, bs <+: all → P bs u → Answers (serve .turn) u (P' bs)) (h : Interleaves all n P' V) :
    Interleaves all (n + 1) P V := by
  intro mid
  induction mid with
  | nil =>
    intro bs u _ hcount
    cases hcount
  | cons e mid ih =>
    intro bs u hmid hcount hall hu
    have htail : TurnsAndBytes mid := fun e he => hmid e (List.mem_cons_of_mem _ he)
    rcases hmid e List.mem_cons_self with rfl | ⟨b, rfl⟩
    · rw [List.count_cons_self] at hcount
      exact .cons (hturn bs u ⟨_, hall⟩ hu) fun v hv => h mid bs v htail (Nat.succ.inj hcount) hall hv
    · refine .cons (hbyte bs b u hu) fun v hv => ih (bs ++ [b]) v htail hcount ?_ hv
      rw [List.append_assoc]
      exact hall

/-- From a state that has taken no byte yet. -/
theorem Interleaves.leads {mid : List Input} {u : State} (h : Interleaves (receivedBytes mid) n P V)
    (hmid : TurnsAndBytes mid) (hcount : mid.count .turn = n) (hu : P [] u) : Leads mid u V :=
  h mid [] u hmid hcount rfl hu

end

end Sys2Proof.Machine
end

section
/-! ## The collector beside the session

The collector's registers and the rest of the state evolve side by side: received bytes touch the former only, and a move of
the session that concerns the sending touches the latter only (rules R204, R231, R275). -/

namespace Sys2Proof.Machine

/-- `u` with the collector's registers and RXB as in `r`. -/
def withRx (r u : State) : State :=
  { u with
    rxb := r.rxb, rxlen := r.rxlen, dcnt := r.dcnt, rxarmed := r.rxarmed, rxdone := r.rxdone, rxovf := r.rxovf }

theorem closeIfDone_withRx (r u : State) : closeIfDone (withRx r u) = withRx (closeIfDone r) u := by
  by_cases htwo : r.dcnt = 2
  · rw [closeIfDone_of_two htwo, closeIfDone_of_two (s := withRx r u) htwo]
    rfl
  by_cases hfull : r.rxlen.toNat = 522
  · rw [closeIfDone_of_full htwo hfull, closeIfDone_of_full (s := withRx r u) htwo hfull]
    rfl
  · rw [closeIfDone_of_open htwo hfull, closeIfDone_of_open (s := withRx r u) htwo hfull]

/-- A received byte touches nothing beside the collector. -/
theorem collect_withRx {b : Byte} {r r' : State} (h : collect b r = .next r') (u : State) :
    collect b (withRx r u) = .next (withRx r' u) := by
  rcases collect_eq_next.1 h with ⟨harmed, rfl⟩ | ⟨harmed, hroom, rfl⟩
  · exact collect_of_unarmed (s := withRx r' u) harmed b
  · refine (collect_of_armed (s := withRx r u) harmed hroom b).trans ?_
    rw [gathered_singleton]
    exact congrArg Host.Outcome.next
      (closeIfDone_withRx (countByte b { r with rxb := Memory.write r.rxb r.rxlen.toNat b }) u)

theorem answers_rxByte {b : Byte} {r r' : State} (h : collect b r = .next r') (u : State) :
    Answers (serve (.rxByte b)) (withRx r u) (Eq (withRx r' u)) :=
  answers_of_eq fun queue log => collect_withRx h (u.given queue log)

/-- While nothing is armed a received byte is dropped (rule R204). -/
theorem answers_rxByte_of_unarmed {u : State} (h : u.rxarmed = false) (b : Byte) :
    Answers (serve (.rxByte b)) u (Eq u) :=
  answers_rxByte (collect_of_unarmed h b) u

/-- What is known of the collector after the bytes `bs`, `C bs`, is known again after one more. -/
def Collects (C : List Byte → State → Prop) : Prop :=
  ∀ bs b r, C bs r → ∃ r', collect b r = .next r' ∧ C (bs ++ [b]) r'

/-- The state `u`, but for a collector that has taken the bytes `bs`. -/
def Beside (C : List Byte → State → Prop) (u : State) (bs : List Byte) (x : State) : Prop :=
  ∃ r, C bs r ∧ x = withRx r u

theorem takesBytes_beside {C : List Byte → State → Prop} (hC : Collects C) (u : State) : TakesBytes (Beside C u) := by
  rintro bs b _ ⟨r, hr, rfl⟩
  obtain ⟨r', hcollect, hr'⟩ := hC bs b r hr
  exact (answers_rxByte hcollect u).imp fun _ hv => ⟨r', hr', hv.symm⟩

/-- A move of the session that neither looks at the collector nor touches it. -/
def MovesBeside (u v : State) : Prop := ∀ r, Answers (serve .turn) (withRx r u) (Eq (withRx r v))

theorem movesBeside_access {a : Access} {u : State} {rest : List HostAct} (k : State → State)
    (htodo : u.session.todo = .access a :: rest)
    (h : ∀ r queue log, hostAccess a ((withRx r u).given queue log) = .next ((withRx r (k u)).given queue log)) :
    MovesBeside u (sessionGo rest (k u)) := fun r =>
  answers_turn_access_eq (u := withRx r u) (v := withRx r (k u)) htodo (answers_of_eq (h r))

/-- An armed collector has room for a byte. -/
def HasRoom (r : State) : Prop := r.rxarmed = true → r.rxlen.toNat < 522

theorem HasRoom.collect {r : State} (h : HasRoom r) (b : Byte) :
    ∃ r', Machine.collect b r = .next r' ∧ HasRoom r' ∧ (r'.rxarmed = true ∨ r' = r ∨ r'.rxdone = true) := by
  cases harmed : r.rxarmed with
  | false => exact ⟨r, collect_of_unarmed harmed b, h, .inr (.inl rfl)⟩
  | true =>
    have hlt := h harmed
    have hlen := (toNat_rxlen_gathered (bs := [b]) hlt).trans_le hlt
    refine ⟨_, collect_of_armed harmed hlt b, fun hopen => ?_, ?_⟩
    · rw [closeIfDone_rxlen]
      exact rxlen_lt_of_closeIfDone_armed hlen hopen
    · unfold closeIfDone
      split
      · exact .inr (.inr rfl)
      split
      · exact .inr (.inr rfl)
      · exact .inl harmed

theorem collects_hasRoom : Collects fun _ => HasRoom := fun _ b _ hr =>
  let ⟨r', hcollect, hroom, _⟩ := hr.collect b
  ⟨r', hcollect, hroom⟩

theorem Inv.hasRoom {s : State} (h : Inv s) : HasRoom s := fun harmed => (h.armed harmed).1

/-- The bytes one after another, from a collector that has room. -/
theorem collects_collectAll {r : State} (h : HasRoom r) : Collects fun bs x => collectAll bs r = .next x := by
  intro bs b x hx
  obtain ⟨y, hy⟩ := exists_collectAll h (bs ++ [b])
  refine ⟨y, ?_, hy⟩
  rw [collectAll_append, hx, andThen_next, collectAll_singleton] at hy
  exact hy

section
variable {all : List Byte} {n : Nat} {C : List Byte → State → Prop} {V : State → Prop} {u v : State}

theorem Interleaves.beside_succ (hC : Collects C) (hmove : MovesBeside u v) (h : Interleaves all n (Beside C v) V) :
    Interleaves all (n + 1) (Beside C u) V := by
  refine .succ (takesBytes_beside hC u) ?_ h
  rintro bs _ - ⟨r, hr, rfl⟩
  exact (hmove r).imp fun _ hx => ⟨r, hr, hx.symm⟩

theorem Interleaves.beside_zero (hC : Collects C) (hV : ∀ r, C all r → V (withRx r u)) :
    Interleaves all 0 (Beside C u) V := by
  refine .zero (takesBytes_beside hC u) ?_
  rintro _ ⟨r, hr, rfl⟩
  exact hV r hr

/-- Where nothing is armed, received bytes among the turns are dropped. -/
theorem takesBytes_of_unarmed {W : State → Prop} (h : ∀ x, W x → x.rxarmed = false) : TakesBytes fun _ => W :=
  fun _ b x hx => (answers_rxByte_of_unarmed (h x hx) b).imp fun _ hy => hy ▸ hx

theorem Interleaves.unarmed_succ (harmed : u.rxarmed = false) (hturn : Answers (serve .turn) u (Eq v))
    (h : Interleaves all n (fun _ => Eq v) V) : Interleaves all (n + 1) (fun _ => Eq u) V :=
  .succ (takesBytes_of_unarmed fun _ hx => hx ▸ harmed) (fun _ _ _ hx => hx ▸ hturn) h

theorem Interleaves.unarmed_zero (harmed : u.rxarmed = false) (hV : V u) : Interleaves all 0 (fun _ => Eq u) V :=
  .zero (takesBytes_of_unarmed fun _ hx => hx ▸ harmed) fun _ hx => hx ▸ hV

/-- Turns after the operation has returned. -/
theorem Interleaves.returned (harmed : u.rxarmed = false) (htodo : u.session.todo = []) (hV : V u) (n : Nat) :
    Interleaves all n (fun _ => Eq u) V := by
  induction n with
  | zero => exact .unarmed_zero harmed hV
  | succ n ih => exact .unarmed_succ harmed (answers_turn_idle htodo) ih

end
end Sys2Proof.Machine
end

section
/-! ## send (rule R231) -/

namespace Sys2Proof.Machine

/-- The operands of a request written (rules R24, R31). -/
def operandsWritten (a c : Byte) (p : List Byte) (s : State) : State :=
  { s with txadr := a, txcmd := c, txlen := BitVec.ofNat 8 p.length, txpay := Memory.writeRange s.txpay 0 p }

/-- A frame handed to the channel (rule R200). -/
def frameSent (frame : List Byte) (s : State) : State :=
  endWrite (channelAnswer frame.length s) frame.length
    (txOut (frame.take (channelAnswer frame.length s)) (afterAnswer s))

/-- A request encoded and handed to the channel (rule R231). -/
def requestSent (a c : Byte) (p : List Byte) (s : State) : State :=
  frameSent (stuff a c p) (encodeResult p (operandsWritten a c p s))

theorem readRange_operandsWritten (a c : Byte) {p : List Byte} (hp : p.length ≤ 255) (s : State) :
    Memory.readRange (operandsWritten a c p s).txpay 0 (operandsWritten a c p s).txlen.toNat = some p := by
  have hlen : (operandsWritten a c p s).txlen.toNat = p.length := Nat.mod_eq_of_lt (Nat.lt_succ_of_le hp)
  rw [hlen]
  exact Memory.readRange_writeRange s.txpay 0 p

theorem sessionGo_sessionGo (rest todo : List HostAct) (s : State) :
    sessionGo rest (sessionGo todo s) = sessionGo rest s := rfl

theorem frameSent_sessionGo (frame : List Byte) (todo : List HostAct) (s : State) :
    frameSent frame (sessionGo todo s) = sessionGo todo (frameSent frame s) := rfl

theorem sessionGo_todo {rest : List HostAct} {s : State} (h : s.session.todo = rest) : sessionGo rest s = s := by
  rw [← h]
  rfl

theorem movesBeside_encode {u : State} {p : List Byte} {rest : List HostAct}
    (hp : Memory.readRange u.txpay 0 u.txlen.toNat = some p)
    (htodo : u.session.todo = .access (command 0x00#8 0x01#8) :: rest) :
    MovesBeside u (sessionGo rest (encodeResult p u)) :=
  movesBeside_access (encodeResult p) htodo
    fun r queue log => exec_encode_of_written (s := (withRx r u).given queue log) hp

theorem movesBeside_txsend {u : State} {frame : List Byte} {rest : List HostAct} (hrdy : u.txrdy = true)
    (hframe : Memory.readRange u.txw 0 u.txwlen.toNat = some frame)
    (htodo : u.session.todo = .access (command 0x00#8 0x03#8) :: rest) :
    MovesBeside u (sessionGo rest (frameSent frame u)) := by
  refine movesBeside_access (frameSent frame) htodo fun r queue log => ?_
  have hsend := execTxsend_of_frame (s := (withRx r u).given queue log) hrdy hframe
  rw [show ((withRx r u).given queue log).txwlen.toNat = frame.length from (Memory.readRange_eq_some.1 hframe).1.symm]
    at hsend
  exact hsend

section
variable {all : List Byte} {n : Nat} {C : List Byte → State → Prop} {V : State → Prop} {rest : List HostAct}

/-- The payload written over the port, byte by byte (rule R231). -/
theorem Interleaves.payloadWrites (hC : Collects C) {p : List Byte} {i : Nat} {u : State} (hi : i + p.length ≤ 255)
    (htodo : u.session.todo = Machine.payloadWrites i p ++ rest)
    (h : Interleaves all n (Beside C (sessionGo rest { u with txpay := Memory.writeRange u.txpay i p })) V) :
    Interleaves all (p.length + n) (Beside C u) V := by
  induction p generalizing i u with
  | nil =>
    have hgo : sessionGo rest u = u := sessionGo_todo htodo
    change Interleaves all n (Beside C (sessionGo rest u)) V at h
    rw [List.length_nil, Nat.zero_add]
    rwa [hgo] at h
  | cons b p ih =>
    rw [List.length_cons] at hi ⊢
    rw [Nat.add_right_comm]
    have hmove := movesBeside_access (fun s => { s with txpay := Memory.write s.txpay i b }) htodo
      fun r queue log => hostBufWrite_txpay (show i < 255 by omega) b ((withRx r u).given queue log)
    exact .beside_succ hC hmove (ih (by omega) rfl h)

/-- The operands (rule R231). -/
theorem Interleaves.operands (hC : Collects C) {a c : Byte} {p : List Byte} {u : State} (hp : p.length ≤ 255)
    (htodo : u.session.todo = .access (.regWrite 3 (.byte a)) :: .access (.regWrite 4 (.byte c)) ::
      .access (.regWrite 5 (.byte (BitVec.ofNat 8 p.length))) :: (Machine.payloadWrites 0 p ++ rest))
    (h : Interleaves all n (Beside C (sessionGo rest (operandsWritten a c p u))) V) :
    Interleaves all (p.length + n + 3) (Beside C u) V :=
  .beside_succ hC (movesBeside_access (fun s => { s with txadr := a }) htodo fun _ _ _ => rfl)
    (.beside_succ hC (movesBeside_access (fun s => { s with txcmd := c }) rfl fun _ _ _ => rfl)
      (.beside_succ hC (movesBeside_access (fun s => { s with txlen := BitVec.ofNat 8 p.length }) rfl fun _ _ _ => rfl)
        (.payloadWrites hC (by rwa [Nat.zero_add]) rfl h)))

/-- send up to the reading of ERR (rule R231). -/
theorem Interleaves.send (hC : Collects C) {a c : Byte} {p : List Byte} {x : Bool} {u : State} (hp : p.length ≤ 255)
    (htodo : u.session.todo = sendActs a c p x ++ rest)
    (h : Interleaves all n (Beside C (sessionGo (.checkSend x :: rest) (requestSent a c p u))) V) :
    Interleaves all (p.length + 5 + n) (Beside C u) V := by
  have hwritten := readRange_operandsWritten a c hp u
  rw [sendActs, List.cons_append, List.cons_append, List.cons_append, List.append_assoc] at htodo
  rw [show p.length + 5 + n = p.length + (n + 2) + 3 by omega]
  rw [requestSent, ← sessionGo_sessionGo _ (.access (command 0x00#8 0x03#8) :: .checkSend x :: rest),
    ← frameSent_sessionGo] at h
  refine .operands hC hp htodo (.beside_succ hC (movesBeside_encode hwritten rfl) (.beside_succ hC ?_ h))
  exact movesBeside_txsend rfl (readRange_txw_encodeResult hwritten) rfl

end

section
variable {u v : State} {x : Bool} {rest : List HostAct}

theorem movesBeside_checkSend (h : ∀ r, afterSend x rest (withRx r (sessionGo (.checkSend x :: rest) u)) = withRx r v) :
    MovesBeside (sessionGo (.checkSend x :: rest) u) v := fun r =>
  h r ▸ answers_turn_checkSend (u := withRx r (sessionGo (.checkSend x :: rest) u)) rfl

theorem movesBeside_checkSend_of_none (h : u.err = .none) :
    MovesBeside (sessionGo (.checkSend x :: rest) u) (sessionGo rest u) :=
  movesBeside_checkSend fun r => afterSend_of_none (s := withRx r (sessionGo (.checkSend x :: rest) u)) h

theorem movesBeside_checkSend_of_error (h : u.err ≠ .none) :
    MovesBeside (sessionGo (.checkSend false :: rest) u) (sessionReturn (.error .transportError) u) :=
  movesBeside_checkSend fun r => afterSend_of_error (s := withRx r (sessionGo (.checkSend false :: rest) u)) h

theorem movesBeside_checkSend_of_error_in_exchange (h : u.err ≠ .none) :
    MovesBeside (sessionGo (.checkSend true :: rest) u)
      (sessionGo [.access (command 0x00#8 0x05#8), .finish (.error .transportError)] u) :=
  movesBeside_checkSend fun r =>
    afterSend_of_error_in_exchange (s := withRx r (sessionGo (.checkSend true :: rest) u)) h

end

theorem movesBeside_finish {u : State} {r : SessionResult} {rest : List HostAct}
    (htodo : u.session.todo = .finish r :: rest) : MovesBeside u (sessionReturn r u) := fun x =>
  answers_turn_finish (u := withRx x u) htodo

theorem movesBeside_idle {u : State} (htodo : u.session.todo = []) : MovesBeside u u :=
  fun r => answers_turn_idle (u := withRx r u) htodo

/-- What a call of send comes to (rule R231). -/
structure Sent (a c : Byte) (p : List Byte) (s v : State) : Prop where
  txs : v.txs = s.txs ++ (stuff a c p).take (channelAnswer (stuff a c p).length s)
  txadr : v.txadr = a
  txcmd : v.txcmd = c
  txlen : v.txlen = BitVec.ofNat 8 p.length
  todo : v.session.todo = []
  result : v.session.result = some (
    if channelAnswer (stuff a c p).length s < (stuff a c p).length then .error .transportError else .ok)

/-- Settles O55: the operands, ENCODE, TXSEND and the reading of ERR; then the return, or an idle turn where the error has
returned. -/
theorem sessionSendRuns : Obligations.SessionSendRuns := by
  intro s a c p mid rest hs hp htodo hmid hcount hinputs
  have hsend : Interleaves (receivedBytes mid) (p.length + 5 + 2)
      (Beside (fun _ => HasRoom) { s with session := callSession (.send a c p) s.session }) (Sent a c p s) := by
    refine .send collects_hasRoom hp rfl ?_
    by_cases hshort : channelAnswer (stuff a c p).length s < (stuff a c p).length
    · refine .beside_succ collects_hasRoom (movesBeside_checkSend_of_error (ne_of_eq_of_ne (if_pos hshort) (by decide)))
        (.beside_succ collects_hasRoom (movesBeside_idle rfl) (.beside_zero collects_hasRoom fun r _ => ?_))
      exact ⟨rfl, rfl, rfl, rfl, rfl, by rw [if_pos hshort]; rfl⟩
    · refine .beside_succ collects_hasRoom (movesBeside_checkSend_of_none (if_neg hshort))
        (.beside_succ collects_hasRoom (movesBeside_finish rfl) (.beside_zero collects_hasRoom fun r _ => ?_))
      exact ⟨rfl, rfl, rfl, rfl, rfl, by rw [if_neg hshort]; rfl⟩
  have hleads : Leads (.call (.send a c p) :: mid) s (Sent a c p s) :=
    .step (answers_call htodo hp) (hsend.leads hmid hcount ⟨s, hs.hasRoom, rfl⟩)
  obtain ⟨v, ⟨htxs, htxadr, htxcmd, htxlen, htodo', hresult⟩, log, hrun⟩ := hleads.run (rest := rest) hinputs rfl
  exact ⟨_, hrun, rfl, htxs, htxadr, htxcmd, htxlen, htodo', hresult⟩

end Sys2Proof.Machine
end

section
/-! ## A collection from its arming on (rules R203 to R206) -/

namespace Sys2Proof.Machine

/-- The state RXARM leaves (rule R203). -/
def armed (s : State) : State := succeed (flagsArm { s with rxlen := 0, dcnt := 0 })

theorem answers_rxarm (u : State) : Answers (hostAccess (command 0x00#8 0x04#8)) u (Eq (armed u)) :=
  answers_of_eq fun _ _ => rfl

/-- A collection that has gathered nothing yet. -/
structure JustArmed (r : State) : Prop where
  armed : r.rxarmed = true
  done : r.rxdone = false
  overflow : r.rxovf = false
  rxlen : r.rxlen = 0
  dcnt : r.dcnt = 0

/-- A collection that has ended with the bytes `bs`. -/
structure Ended (bs : List Byte) (r : State) : Prop where
  unarmed : r.rxarmed = false
  done : r.rxdone = true
  fits : r.rxlen.toNat ≤ 522
  content : Memory.readRange r.rxb 0 r.rxlen.toNat = some bs

section
variable {r : State} {bs : List Byte}

theorem JustArmed.toNat_rxlen (hr : JustArmed r) : r.rxlen.toNat = 0 := by rw [hr.rxlen]; rfl

theorem JustArmed.toNat_dcnt (hr : JustArmed r) : r.dcnt.toNat = 0 := by rw [hr.dcnt]; rfl

theorem JustArmed.hasRoom (hr : JustArmed r) : HasRoom r := fun _ => by rw [hr.toNat_rxlen]; decide

theorem JustArmed.leavesOpen (hr : JustArmed r) (h : StaysOpen bs) : LeavesOpen bs r :=
  ⟨by rw [hr.toNat_dcnt, Nat.zero_add]; exact h.1, by rw [hr.toNat_rxlen, Nat.zero_add]; exact h.2⟩

theorem JustArmed.collectAll (hr : JustArmed r) (h : StaysOpen bs) : collectAll bs r = .next (gathered bs r) :=
  collectAll_of_leavesOpen hr.armed (hr.leavesOpen h)

theorem JustArmed.rxlen_gathered (hr : JustArmed r) (h : bs.length ≤ 522) : (gathered bs r).rxlen.toNat = bs.length := by
  rw [toNat_rxlen_gathered (by rw [hr.toNat_rxlen]; omega), hr.toNat_rxlen, Nat.zero_add]

theorem JustArmed.content (hr : JustArmed r) (h : bs.length ≤ 522) :
    Memory.readRange (gathered bs r).rxb 0 (gathered bs r).rxlen.toNat = some bs := by
  rw [hr.rxlen_gathered h, gathered, hr.toNat_rxlen]
  exact Memory.readRange_writeRange r.rxb 0 bs

/-- The closing byte ends the collection; it overflows where the second delimiter is missing (rule R204). -/
theorem JustArmed.closes (hr : JustArmed r) {b : Byte} (h : ClosesOn bs b) :
    ∃ r', collect b (gathered bs r) = .next r' ∧ Ended (bs ++ [b]) r' ∧
      r'.rxovf = decide ((bs ++ [b]).count Config.delim < 2) := by
  obtain ⟨⟨hdelims, hroom⟩, hclose⟩ := h
  rw [Config.rxCap] at hroom hclose
  have hlength : (bs ++ [b]).length = bs.length + 1 := List.length_append
  have hle : (bs ++ [b]).count Config.delim ≤ 2 := by
    have hone : [b].count Config.delim ≤ 1 := List.count_le_length
    rw [List.count_append]
    omega
  have hlen := hr.rxlen_gathered (bs := bs ++ [b]) (by omega)
  have hcontent := hr.content (bs := bs ++ [b]) (by omega)
  have hdcnt : (gathered (bs ++ [b]) r).dcnt.toNat = (bs ++ [b]).count Config.delim := by
    rw [toNat_dcnt_gathered (by rw [hr.toNat_dcnt]; omega), hr.toNat_dcnt, Nat.zero_add]
  have hfits : (gathered (bs ++ [b]) r).rxlen.toNat ≤ 522 := by omega
  refine ⟨closeIfDone (gathered (bs ++ [b]) r), ?_, ?_⟩
  · rw [← gathered_append (by rw [hr.toNat_rxlen]; omega)]
    exact collect_of_armed (s := gathered bs r) hr.armed (by rw [hr.rxlen_gathered (by omega)]; exact hroom) b
  · by_cases htwo : (bs ++ [b]).count Config.delim = 2
    · rw [closeIfDone_of_two (BitVec.eq_of_toNat_eq (hdcnt.trans htwo)), htwo]
      exact ⟨⟨rfl, rfl, hfits, hcontent⟩, hr.overflow⟩
    · have hfull : (gathered (bs ++ [b]) r).rxlen.toNat = 522 := by
        rw [hlen, hlength]
        exact hclose.resolve_left htwo
      have hne : (gathered (bs ++ [b]) r).dcnt ≠ 2 := fun h => htwo (hdcnt.symm.trans (congrArg BitVec.toNat h))
      rw [closeIfDone_of_full hne hfull, decide_eq_true (by omega)]
      exact ⟨⟨rfl, rfl, hfits, hcontent⟩, rfl⟩

end

theorem Ended.withRx {bs : List Byte} {r : State} (h : Ended bs r) (u : State) : Ended bs (withRx r u) :=
  ⟨h.unarmed, h.done, h.fits, h.content⟩

theorem StaysOpen.of_front {bs all : List Byte} (h : StaysOpen all) (hbs : bs <+: all) : StaysOpen bs :=
  ⟨(hbs.sublist.count_le _).trans_lt h.1, hbs.length_le.trans_lt h.2⟩

/-- Polls of a collection that stays open, received bytes among them (rule R233). -/
theorem Interleaves.polls {all : List Byte} {r u : State} {rest : List HostAct} (hr : JustArmed r) (hopen : StaysOpen all)
    (htodo : u.session.todo = .poll :: rest) (n : Nat) :
    Interleaves all n (Beside (fun bs x => collectAll bs r = .next x) u) (Eq (withRx (gathered all r) u)) := by
  have hC := collects_collectAll hr.hasRoom
  induction n with
  | zero =>
    refine .beside_zero hC fun x hx => ?_
    cases (hr.collectAll hopen).symm.trans hx
    rfl
  | succ n ih =>
    refine .succ (takesBytes_beside hC u) ?_ ih
    rintro bs _ hbs ⟨x, hx, rfl⟩
    cases (hr.collectAll (hopen.of_front hbs)).symm.trans hx
    exact (answers_turn_poll_of_open (u := withRx (gathered bs r) u) htodo hr.done).imp fun _ hv => ⟨_, hx, hv.symm⟩

/-- RXSTOP ends an open collection (rule R206). -/
def stopped (s : State) : State := { s with rxarmed := false, rxdone := true, err := .none }

theorem answers_rxstop {u : State} (h : u.rxarmed = true) :
    Answers (hostAccess (command 0x00#8 0x05#8)) u (Eq (stopped u)) :=
  answers_of_eq fun queue log => execRxstop_of_armed (s := u.given queue log) h

theorem JustArmed.ended_stopped {r : State} {bs : List Byte} (hr : JustArmed r) (h : StaysOpen bs) :
    Ended bs (stopped (gathered bs r)) :=
  ⟨rfl, rfl, (hr.rxlen_gathered h.2.le).trans_le h.2.le, hr.content h.2.le⟩

/-! ### receiveFrame (rule R233) -/

/-- What a call of receiveFrame comes to. -/
structure Received (bs : List Byte) (overflow : Bool) (v : State) : Prop where
  unarmed : v.rxarmed = false
  done : v.rxdone = true
  rxovf : v.rxovf = overflow
  err : v.err = .none
  todo : v.session.todo = []
  result : v.session.result = some (.raw bs)

/-- The state receiveFrame waits in: called and armed. -/
def receiving (s : State) : State :=
  sessionGo [.poll, .rawResult] (armed { s with session := callSession .receiveFrame s.session })

theorem justArmed_receiving (s : State) : JustArmed (receiving s) := ⟨rfl, rfl, rfl, rfl, rfl⟩

theorem leads_receiving {s : State} {l : List Input} {V : State → Prop} (htodo : s.session.todo = [])
    (h : Leads l (receiving s) V) : Leads (.call .receiveFrame :: .turn :: l) s V :=
  .step (answers_call htodo (Nat.zero_le _)) (.step (answers_turn_access_eq rfl (answers_rxarm _)) h)

/-- The wait of receiveFrame, while the collection stays open. -/
theorem leads_waiting {s : State} {mid : List Input} (hmid : TurnsAndBytes mid) (hopen : StaysOpen (receivedBytes mid)) :
    Leads mid (receiving s) (Eq (gathered (receivedBytes mid) (receiving s))) :=
  (Interleaves.polls (u := receiving s) (justArmed_receiving s) hopen rfl _).leads hmid rfl ⟨_, rfl, rfl⟩

/-- Settles O57: the wait, and then RXSTOP after the deadline or a last poll after the closing byte; the bytes gathered are
read. -/
theorem sessionReceiveTimesOut : Obligations.SessionReceiveTimesOut := by
  refine ⟨fun s mid rest hmid hopen htodo hinputs => ?_,
    fun s mid post rest b hmid hpost hcloses hcount htodo hinputs => ?_⟩
  · have hended := (justArmed_receiving s).ended_stopped hopen
    have hleads : Leads (.call .receiveFrame :: .turn :: (mid ++ [.deadline, .turn, .turn])) s
        (Received (receivedBytes mid) false) := by
      refine leads_receiving htodo (.append (leads_waiting hmid hopen) ?_)
      rintro _ rfl
      exact .step (answers_deadline rfl) (.step (answers_turn_access_eq rfl (answers_rxstop rfl))
        (.step (answers_turn_rawResult rfl hended.content) (.nil ⟨rfl, rfl, rfl, rfl, rfl, rfl⟩)))
    obtain ⟨v, ⟨harmed, hdone, hovf, herr, htodo', hresult⟩, log, hrun⟩ :=
      hleads.run (rest := rest) (n := mid.length + 5) (by simpa using hinputs) (by simp)
    exact ⟨_, hrun, rfl, harmed, hdone, hovf, herr, htodo', hresult⟩
  · obtain ⟨r, hcollect, hended, hovf⟩ := (justArmed_receiving s).closes hcloses
    have hwait := hended.withRx (gathered (receivedBytes mid) (receiving s))
    have hread : Interleaves (receivedBytes post) 2 (fun _ => Eq (withRx r (gathered (receivedBytes mid) (receiving s))))
        (Received (receivedBytes mid ++ [b]) r.rxovf) :=
      .unarmed_succ hwait.unarmed (answers_turn_poll_of_done rfl hwait.done) (.unarmed_succ hwait.unarmed
        (answers_turn_rawResult rfl hwait.content)
        (.unarmed_zero hwait.unarmed ⟨hwait.unarmed, hwait.done, rfl, rfl, rfl, rfl⟩))
    have hleads : Leads (.call .receiveFrame :: .turn :: (mid ++ .rxByte b :: post)) s
        (Received (receivedBytes mid ++ [b]) r.rxovf) := by
      refine leads_receiving htodo (.append (leads_waiting hmid hcloses.1) ?_)
      rintro _ rfl
      exact .step (answers_rxByte hcollect _) (hread.leads hpost hcount rfl)
    obtain ⟨v, ⟨harmed, hdone, hovf', herr, htodo', hresult⟩, log, hrun⟩ :=
      hleads.run (rest := rest) (n := mid.length + post.length + 3) (by simpa using hinputs) (by simp; omega)
    exact ⟨_, hrun, rfl, harmed, hdone, hovf'.trans hovf, herr, htodo', hresult⟩

end Sys2Proof.Machine
end

section
/-! ## sendAndReceive (rules R232, R235 to R239) -/

namespace Sys2Proof.Machine

/-- The moves of sendAndReceive after the request. -/
def replyActs : List HostAct :=
  [.poll, .access (.regRead 7), .access (command 0x00#8 0x02#8), .checkDecode, .statusTest, .capacityTest]

/-- sendAndReceive called. -/
def exchangeCalled (a c : Byte) (p : List Byte) (buf : List (Option Byte)) (s : State) : State :=
  { s with session := callSession (.sendAndReceive a c p buf) s.session }

/-- sendAndReceive called, and the collector armed: the request is next (decision D34). -/
def requesting (a c : Byte) (p : List Byte) (buf : List (Option Byte)) (s : State) : State :=
  sessionGo (sendActs a c p true ++ replyActs) (armed (exchangeCalled a c p buf s))

/-- What sendAndReceive comes to: the bytes sent, the code in ERR, the result and the caller's buffer. -/
structure Exchanged (sent : List Byte) (e : ErrorKind) (result : SessionResult) (resp : Nat → Option Byte)
    (s v : State) : Prop where
  txs : v.txs = s.txs ++ sent
  err : v.err = e
  todo : v.session.todo = []
  result : v.session.result = some result
  resp : ∀ i, Memory.read v.session.resp i = resp i

theorem read_callerBuffer_zero (buf : List (Option Byte)) (i : Nat) :
    Memory.read (callerBuffer 0 buf) i = buf[i]?.join := by
  have h := read_callerBuffer buf 0 i
  rwa [Nat.zero_add] at h

section
variable {a c : Byte} {p : List Byte} {buf : List (Option Byte)} {s : State}

theorem justArmed_requesting : JustArmed (requesting a c p buf s) := ⟨rfl, rfl, rfl, rfl, rfl⟩

/-! ### The request -/

/-- The state sendAndReceive waits for the reply in, but for the collector. -/
def waiting (a c : Byte) (p : List Byte) (buf : List (Option Byte)) (s : State) : State :=
  sessionGo replyActs (requestSent a c p (requesting a c p buf s))

theorem err_requestSent_of_whole (h : channelAnswer (stuff a c p).length s = (stuff a c p).length) :
    (requestSent a c p (requesting a c p buf s)).err = .none :=
  if_neg (by exact Nat.not_lt.2 h.ge)

theorem txs_waiting (h : channelAnswer (stuff a c p).length s = (stuff a c p).length) :
    (waiting a c p buf s).txs = s.txs ++ stuff a c p := by
  have htake : (stuff a c p).take (channelAnswer (stuff a c p).length s) = stuff a c p := by rw [h, List.take_length]
  exact congrArg (s.txs ++ ·) htake

/-- The whole request goes out while the collection stays open; then the session polls. -/
theorem leads_waiting_for_reply {mid : List Input} (hp : p.length ≤ 255)
    (hwhole : channelAnswer (stuff a c p).length s = (stuff a c p).length) (hmid : TurnsAndBytes mid)
    (hcount : p.length + 6 ≤ mid.count .turn) (hopen : StaysOpen (receivedBytes mid)) :
    Leads mid (requesting a c p buf s)
      (Eq (withRx (gathered (receivedBytes mid) (requesting a c p buf s)) (waiting a c p buf s))) := by
  obtain ⟨k, hk⟩ := Nat.exists_eq_add_of_le hcount
  have hC := collects_collectAll (justArmed_requesting (a := a) (c := c) (p := p) (buf := buf) (s := s)).hasRoom
  have hcheck : MovesBeside _ (waiting a c p buf s) :=
    movesBeside_checkSend_of_none (x := true) (err_requestSent_of_whole hwhole)
  have hwait := Interleaves.send hC hp rfl (.beside_succ hC hcheck (.polls justArmed_requesting hopen rfl k))
  exact hwait.leads hmid (by omega) ⟨_, rfl, rfl⟩

/-! ### A short write (rule R232) -/

/-- Once armed, a collection is open or has ended. -/
def OpenOrDone (r : State) : Prop := HasRoom r ∧ (r.rxarmed = true ∨ r.rxdone = true)

theorem collects_openOrDone : Collects fun _ => OpenOrDone := by
  rintro - b r ⟨hroom, hdone⟩
  obtain ⟨r', hcollect, hroom', hr'⟩ := hroom.collect b
  refine ⟨r', hcollect, hroom', ?_⟩
  rcases hr' with h | rfl | h
  · exact .inl h
  · exact hdone
  · exact .inr h

theorem collects_done : Collects fun _ r => r.rxarmed = false ∧ r.rxdone = true := fun _ b r hr =>
  ⟨r, collect_of_unarmed hr.1 b, hr⟩

/-- RXSTOP leaves nothing armed, whatever the collection came to. -/
theorem answers_turn_rxstop {r u : State} {rest : List HostAct} (hr : OpenOrDone r)
    (htodo : u.session.todo = .access (command 0x00#8 0x05#8) :: rest) :
    Answers (serve .turn) (withRx r u) fun x =>
      ∃ r', (r'.rxarmed = false ∧ r'.rxdone = true) ∧ x = withRx r' (sessionGo rest (succeed u)) := by
  cases harmed : r.rxarmed with
  | true =>
    exact (answers_turn_access_eq (u := withRx r u) htodo (answers_rxstop harmed)).imp
      fun _ hx => ⟨stopped r, ⟨rfl, rfl⟩, hx.symm⟩
  | false =>
    have hstop : Answers (hostAccess (command 0x00#8 0x05#8)) (withRx r u) (Eq (withRx r (succeed u))) :=
      answers_of_eq fun queue log => execRxstop_of_unarmed (s := (withRx r u).given queue log) harmed
    exact (answers_turn_access_eq (u := withRx r u) htodo hstop).imp fun _ hx =>
      ⟨r, ⟨harmed, hr.2.resolve_left (Bool.eq_false_iff.1 harmed)⟩, hx.symm⟩

/-- What sendAndReceive comes to after a short write. -/
structure CutShort (a c : Byte) (p : List Byte) (buf : List (Option Byte)) (s v : State) : Prop extends
    Exchanged ((stuff a c p).take (channelAnswer (stuff a c p).length s)) .none (.error .transportError)
      (fun i => buf[i]?.join) s v where
  unarmed : v.rxarmed = false
  done : v.rxdone = true

/-- The call arms, sends, finds the error, stops the collection and returns. -/
theorem leads_short_write {mid : List Input} (hs : Inv s) (hp : p.length ≤ 255)
    (hshort : channelAnswer (stuff a c p).length s < (stuff a c p).length) (hmid : TurnsAndBytes mid)
    (hcount : mid.count .turn = p.length + 9) :
    Leads mid (exchangeCalled a c p buf s) (CutShort a c p buf s) := by
  have herr : (requestSent a c p (requesting a c p buf s)).err ≠ .none :=
    ne_of_eq_of_ne (if_pos hshort) (by decide)
  have hfinish : Interleaves (receivedBytes mid) 1 (Beside (fun _ r => r.rxarmed = false ∧ r.rxdone = true)
      (sessionGo [.finish (.error .transportError)] (succeed (requestSent a c p (requesting a c p buf s)))))
      (CutShort a c p buf s) :=
    .beside_succ collects_done (movesBeside_finish rfl) (.beside_zero collects_done fun r hr =>
      ⟨⟨rfl, rfl, rfl, rfl, read_callerBuffer_zero buf⟩, hr.1, hr.2⟩)
  have hstop : Interleaves (receivedBytes mid) 2 (Beside (fun _ => OpenOrDone) (sessionGo
      [.access (command 0x00#8 0x05#8), .finish (.error .transportError)] (requestSent a c p (requesting a c p buf s))))
      (CutShort a c p buf s) := by
    refine .succ (takesBytes_beside collects_openOrDone _) ?_ hfinish
    rintro bs _ - ⟨r, hr, rfl⟩
    exact answers_turn_rxstop hr rfl
  have hsend := Interleaves.send collects_openOrDone (u := requesting a c p buf s) hp rfl
    (.beside_succ collects_openOrDone (movesBeside_checkSend_of_error_in_exchange herr) hstop)
  have harm := Interleaves.succ (P := Beside (fun _ => HasRoom) (exchangeCalled a c p buf s))
    (takesBytes_beside collects_hasRoom _) ?_ hsend
  · exact harm.leads hmid hcount ⟨s, hs.hasRoom, rfl⟩
  · rintro bs _ - ⟨r, hr, rfl⟩
    exact (answers_turn_access_eq (u := withRx r (exchangeCalled a c p buf s)) rfl (answers_rxarm _)).imp fun _ hx =>
      ⟨armed r, ⟨fun _ => Nat.zero_lt_succ _, .inl rfl⟩, hx.symm⟩

end

end Sys2Proof.Machine
end

section
/-! ## The reply (rules R232, R235 to R239) -/

namespace Sys2Proof.Machine

/-! ### A reply that does not decode -/

theorem ne_none_of_unstuff_eq_error {raw : List Byte} {e : ErrorKind} (h : unstuff raw = .error e) : e ≠ .none := by
  cases hheader : headerOk raw with
  | false =>
    rw [unstuff_of_header_fails hheader] at h
    cases h
    decide
  | true =>
    cases hscan : unescape raw.tail with
    | error x =>
      rw [unstuff_of_scan_error hheader hscan] at h
      cases h
      rcases unescape_error_kind hscan with rfl | rfl <;> decide
    | ok l =>
      rw [unstuff_of_scanned hheader hscan] at h
      rcases validate_eq_error_cases h with ⟨rfl, -⟩ | ⟨rfl, -⟩ <;> decide

/-- Fewer than two delimiters are no frame (rule R173). -/
theorem unstuff_of_staysOpen {raw : List Byte} (h : StaysOpen raw) : unstuff raw = .error .frameError := by
  refine unstuff_of_header_fails (Bool.eq_false_iff.2 fun hheader => ?_)
  exact absurd (two_le_count_of_headerOk hheader) (Nat.not_le.2 h.1)

/-- What is left of `u` where DECODE has failed with `e`. -/
structure Rejected (e : ErrorKind) (u v : State) : Prop where
  err : v.err = e
  invalid : v.rxvalid = false
  unarmed : v.rxarmed = u.rxarmed
  txs : v.txs = u.txs
  resp : v.session.resp = u.session.resp

theorem answers_decode_of_error {u : State} {raw : List Byte} {e : ErrorKind} (h : Ended raw u)
    (herror : unstuff raw = .error e) {rest : List HostAct}
    (htodo : u.session.todo = .access (command 0x00#8 0x02#8) :: rest) :
    Answers (serve .turn) u fun v => Rejected e u v ∧ v.session.todo = rest := by
  have hdecode : Answers (hostAccess (command 0x00#8 0x02#8)) u (Rejected e u) := fun queue log => by
    obtain ⟨w, hw, hrun, -⟩ := execDecode_of_unstuff_error (s := u.given queue log) h.unarmed h.fits h.content herror
    have hframe := hw.raiseDecode_eq e
    refine ⟨raiseDecode e w, ⟨rfl, ?_, ?_, ?_, ?_⟩, log, hrun.trans (congrArg Host.Outcome.next ?_)⟩
    all_goals rw [hframe]
  exact answers_turn_access htodo hdecode fun v ⟨herr, hinvalid, hunarmed, htxs, hresp⟩ =>
    ⟨⟨herr, hinvalid, hunarmed, htxs, hresp⟩, rfl⟩

/-- The reading of RXLEN, DECODE and the reading of ERR, on bytes that do not decode (rule R235). -/
theorem Interleaves.decode_fails {all raw : List Byte} {u : State} {e : ErrorKind} {V : State → Prop} (h : Ended raw u)
    (herror : unstuff raw = .error e) (htodo : u.session.todo = replyActs.tail)
    (hV : ∀ v, Rejected e u v → V (sessionReturn (.error e) v)) : Interleaves all 3 (fun _ => Eq u) V := by
  have hread := answers_turn_access_eq htodo (answers_regRead (by decide : 7 ≤ 13) u)
  have hunarmed (v : State) (hv : Rejected e u v) : v.rxarmed = false := hv.unarmed.trans h.unarmed
  have hreturn : Interleaves all 0 (fun _ v => ∃ w, Rejected e u w ∧ sessionReturn (.error e) w = v) V := by
    refine .zero (takesBytes_of_unarmed ?_) ?_
    · rintro _ ⟨w, hw, rfl⟩
      exact hunarmed w hw
    · rintro _ ⟨w, hw, rfl⟩
      exact hV w hw
  have hcheck : Interleaves all 1 (fun _ v => Rejected e u v ∧ v.session.todo = [.checkDecode, .statusTest, .capacityTest])
      V := by
    refine .succ (takesBytes_of_unarmed fun v hv => hunarmed v hv.1) ?_ hreturn
    rintro - v - ⟨hv, htodo⟩
    have herr := hv.err
    refine (answers_turn_checkDecode_of_error htodo (herr ▸ ne_none_of_unstuff_eq_error herror)).imp fun x hx => ?_
    exact ⟨v, hv, by rw [← hx, herr]⟩
  refine .unarmed_succ h.unarmed hread (.succ (takesBytes_of_unarmed fun v hv => hv ▸ h.unarmed) ?_ hcheck)
  rintro - _ - rfl
  have hdecode := answers_decode_of_error (rest := [.checkDecode, .statusTest, .capacityTest])
    (u := sessionGo replyActs.tail.tail u) ⟨h.unarmed, h.done, h.fits, h.content⟩ herror rfl
  exact hdecode.imp fun v ⟨⟨herr, hinvalid, hunarmed, htxs, hresp⟩, htodo⟩ =>
    ⟨⟨herr, hinvalid, hunarmed, htxs, hresp⟩, htodo⟩

/-! ### A reply that decodes -/

theorem answers_decode_stuff {u : State} {a c : Byte} {p : List Byte} (h : Ended (stuff a c p) u) (hp : p.length ≤ 255) :
    Answers (hostAccess (command 0x00#8 0x02#8)) u (Eq (decodeResult a c p u)) :=
  answers_of_eq fun queue log => exec_decode_of_logicalBody (s := u.given queue log) h.unarmed h.fits h.content
    (headerOk_stuff a c p) (unescape_tail_stuff a c p) hp

/-- The caller's buffer with payload bytes copied to it from index `i` on (rule R238). -/
def copiedAll (i : Nat) (p : List Byte) (s : State) : State :=
  { s with session := { s.session with resp := Memory.writeRange s.session.resp i p } }

/-- The copy, byte by byte. -/
theorem Interleaves.copies {all p : List Byte} {i n : Nat} {u : State} {V : State → Prop} (harmed : u.rxarmed = false)
    (htodo : u.session.todo = [.copy i n]) (hn : i + p.length = n) (hroom : 3 + n ≤ 522)
    (hp : Memory.readRange u.rxb (3 + i) p.length = some p) (hV : V (sessionReturn (.okLength n) (copiedAll i p u))) :
    Interleaves all (p.length + 1) (fun _ => Eq u) V := by
  induction p generalizing i u with
  | nil =>
    obtain rfl : i = n := hn
    exact .unarmed_succ harmed (answers_turn_copy_end htodo) (.unarmed_zero harmed hV)
  | cons b p ih =>
    rw [List.length_cons] at hn hp ⊢
    obtain ⟨hb, hrest⟩ := Memory.readRange_eq_some_cons.1 hp
    exact .unarmed_succ harmed (answers_turn_copy htodo (by omega) (by omega) hb)
      (ih (u := copied i n b u) harmed rfl (by omega) hrest hV)

/-- The result of sendAndReceive for a reply that decodes, by its status and its length (rules R236 to R238). -/
def replyResult (ra rc : Byte) (rp : List Byte) (buf : List (Option Byte)) : SessionResult :=
  if Config.statusOf ra rc (BitVec.ofNat 8 rp.length) rp ≠ 0 then .error .unsupportedCommand
  else if buf.length < rp.length then .error .dataError
  else .okLength rp.length

/-- The caller's buffer after a reply that decodes (rule R238). -/
def replyBuffer (ra rc : Byte) (rp : List Byte) (buf : List (Option Byte)) (i : Nat) : Option Byte :=
  if Config.statusOf ra rc (BitVec.ofNat 8 rp.length) rp = 0 ∧ rp.length ≤ buf.length ∧ i < rp.length then rp[i]?
  else buf[i]?.join

/-- The request `sent`, a frame decoded in the registers and in RXB, and the caller's buffer as it was at the call. -/
structure HoldsReply (ra rc : Byte) (rp : List Byte) (buf : List (Option Byte)) (sent : List Byte) (s u : State) :
    Prop where
  unarmed : u.rxarmed = false
  rxadr : u.rxadr = ra
  rxcmd : u.rxcmd = rc
  rxplen : u.rxplen = BitVec.ofNat 8 rp.length
  payload : Memory.readRange u.rxb 3 rp.length = some rp
  capacity : u.session.capacity = buf.length
  resp : u.session.resp = callerBuffer 0 buf
  txs : u.txs = s.txs ++ sent
  err : u.err = .none

section
variable {ra rc : Byte} {rp sent : List Byte} {buf : List (Option Byte)} {s u : State}

theorem HoldsReply.toNat_rxplen (h : HoldsReply ra rc rp buf sent s u) (hrp : rp.length ≤ 255) :
    u.rxplen.toNat = rp.length := by
  rw [h.rxplen]
  exact Nat.mod_eq_of_lt (Nat.lt_succ_of_le hrp)

theorem HoldsReply.go (h : HoldsReply ra rc rp buf sent s u) (todo : List HostAct) :
    HoldsReply ra rc rp buf sent s (sessionGo todo u) :=
  ⟨h.unarmed, h.rxadr, h.rxcmd, h.rxplen, h.payload, h.capacity, h.resp, h.txs, h.err⟩

/-- The return without a copy. -/
theorem HoldsReply.exchanged (h : HoldsReply ra rc rp buf sent s u) {e : ErrorKind}
    (hresult : replyResult ra rc rp buf = .error e)
    (hkept : ∀ i, replyBuffer ra rc rp buf i = buf[i]?.join) :
    Exchanged sent .none (replyResult ra rc rp buf) (replyBuffer ra rc rp buf) s (sessionReturn (.error e) u) := by
  refine ⟨h.txs, h.err, rfl, congrArg some hresult.symm, fun i => ?_⟩
  rw [hkept, ← read_callerBuffer_zero, ← h.resp]
  rfl

/-- The return after the copy. -/
theorem HoldsReply.exchanged_copied (h : HoldsReply ra rc rp buf sent s u)
    (hstatus : Config.statusOf ra rc (BitVec.ofNat 8 rp.length) rp = 0) (hfits : rp.length ≤ buf.length) :
    Exchanged sent .none (replyResult ra rc rp buf) (replyBuffer ra rc rp buf) s
      (sessionReturn (.okLength rp.length) (copiedAll 0 rp u)) := by
  refine ⟨h.txs, h.err, rfl, ?_, fun i => ?_⟩
  · rw [replyResult, if_neg (not_not.2 hstatus), if_neg (Nat.not_lt.2 hfits)]
    rfl
  · have hcopied := Memory.read_writeRange rp u.session.resp 0 i
    rw [h.resp, read_callerBuffer_zero, ← h.resp] at hcopied
    refine hcopied.trans ?_
    simp only [replyBuffer, hstatus, hfits, Nat.zero_le, Nat.zero_add, Nat.sub_zero, true_and]

/-- Capacity test and copy on the frame in RXB (rules R237, R238). -/
theorem Interleaves.capacity {all : List Byte} (hrp : rp.length ≤ 255) (h : HoldsReply ra rc rp buf sent s u)
    (hstatus : Config.statusOf ra rc (BitVec.ofNat 8 rp.length) rp = 0) (htodo : u.session.todo = [.capacityTest]) :
    Interleaves all (rp.length + 2) (fun _ => Eq u)
      (Exchanged sent .none (replyResult ra rc rp buf) (replyBuffer ra rc rp buf) s) := by
  have hplen := h.toNat_rxplen hrp
  by_cases hfits : rp.length ≤ buf.length
  · have hturn := answers_turn_capacityTest_of_fits htodo (by rwa [hplen, h.capacity])
    rw [hplen] at hturn
    exact .unarmed_succ h.unarmed hturn (.copies (u := sessionGo [.copy 0 rp.length] u) h.unarmed rfl
      (Nat.zero_add _) (by omega) h.payload ((h.go _).exchanged_copied hstatus hfits))
  · have hturn := answers_turn_capacityTest_of_too_long htodo (by rw [hplen, h.capacity]; exact Nat.not_le.1 hfits)
    exact .unarmed_succ h.unarmed hturn (.returned (u := sessionReturn _ u) h.unarmed rfl (h.exchanged
      ((if_neg (not_not.2 hstatus)).trans (if_pos (Nat.not_le.1 hfits)))
      fun i => if_neg fun hcopy => hfits hcopy.2.1) _)

/-- Status test, capacity test and copy on the frame in RXB (rules R236 to R238). -/
theorem Interleaves.tests {all : List Byte} (hrp : rp.length ≤ 255) (h : HoldsReply ra rc rp buf sent s u)
    (htodo : u.session.todo = [.statusTest, .capacityTest]) :
    Interleaves all (rp.length + 3) (fun _ => Eq u)
      (Exchanged sent .none (replyResult ra rc rp buf) (replyBuffer ra rc rp buf) s) := by
  have hread : Memory.readRange u.rxb 3 u.rxplen.toNat = some rp := by rw [h.toNat_rxplen hrp]; exact h.payload
  by_cases hstatus : Config.statusOf ra rc (BitVec.ofNat 8 rp.length) rp = 0
  · have hturn := answers_turn_statusTest_of_zero htodo hread (by rwa [h.rxadr, h.rxcmd, h.rxplen])
    exact .unarmed_succ h.unarmed hturn (.capacity hrp (h.go _) hstatus rfl)
  · have hturn := answers_turn_statusTest_of_nonzero htodo hread (by rwa [h.rxadr, h.rxcmd, h.rxplen])
    exact .unarmed_succ h.unarmed hturn (.returned (u := sessionReturn _ u) h.unarmed rfl
      (h.exchanged (if_pos hstatus) fun i => if_neg fun hcopy => hstatus hcopy.1) _)

end

end Sys2Proof.Machine
end

section
/-! ## sendAndReceive, whole -/

namespace Sys2Proof.Machine

/-- A wire frame but its last byte leaves a collection open, and the last byte closes it (rule R210). -/
theorem closesOn_stuff {a c : Byte} {p bs : List Byte} (hp : p.length ≤ 255) (h : bs ++ [0x7E#8] = stuff a c p) :
    ClosesOn bs 0x7E#8 := by
  obtain ⟨-, hmax⟩ := length_stuff_bounds (a := a) (c := c) hp
  obtain rfl : bs = Config.delim :: escapeAll (logicalBody a c p) :=
    List.append_cancel_right (h.trans (stuff_eq_concat a c p))
  have hone := count_delim_opened (logicalBody a c p)
  rw [← h, List.length_append, List.length_singleton] at hmax
  have hroom : (Config.delim :: escapeAll (logicalBody a c p)).length < Config.rxCap := by
    rw [Config.rxCap]
    omega
  refine ⟨⟨by rw [hone]; decide, hroom⟩, .inl ?_⟩
  rw [List.count_append, hone]
  rfl

section
variable {a c : Byte} {p : List Byte} {buf : List (Option Byte)} {s : State}

/-- The session polls for the reply, the request out and the caller's buffer as it was at the call. -/
structure AwaitsReply (a c : Byte) (p : List Byte) (buf : List (Option Byte)) (s w : State) : Prop where
  todo : w.session.todo = replyActs
  txs : w.txs = s.txs ++ stuff a c p
  capacity : w.session.capacity = buf.length
  resp : w.session.resp = callerBuffer 0 buf

theorem AwaitsReply.withRx {w : State} (h : AwaitsReply a c p buf s w) (r : State) :
    AwaitsReply a c p buf s (withRx r w) :=
  ⟨h.todo, h.txs, h.capacity, h.resp⟩

/-- The call up to the polls, the collection staying open. -/
theorem leads_exchange {mid tail : List Input} {V : State → Prop} (hp : p.length ≤ 255) (htodo : s.session.todo = [])
    (hwhole : channelAnswer (stuff a c p).length s = (stuff a c p).length) (hmid : TurnsAndBytes mid)
    (hcount : p.length + 6 ≤ mid.count .turn) (hopen : StaysOpen (receivedBytes mid))
    (h : ∀ r w, JustArmed r → AwaitsReply a c p buf s w →
      Leads tail (Machine.withRx (gathered (receivedBytes mid) r) w) V) :
    Leads (.call (.sendAndReceive a c p buf) :: .turn :: (mid ++ tail)) s V :=
  .step (answers_call htodo hp) (.step (answers_turn_access_eq rfl (answers_rxarm (exchangeCalled a c p buf s)))
    (.append (leads_waiting_for_reply hp hwhole hmid hcount hopen) fun _ hx =>
      hx ▸ h _ _ justArmed_requesting ⟨rfl, txs_waiting hwhole, rfl, rfl⟩))

/-- What sendAndReceive comes to where the reply does not decode. -/
structure Undecoded (a c : Byte) (p : List Byte) (buf : List (Option Byte)) (e : ErrorKind) (s v : State) : Prop extends
    Exchanged (stuff a c p) e (.error e) (fun i => buf[i]?.join) s v where
  invalid : v.rxvalid = false

theorem undecoded_of_rejected {e : ErrorKind} {u v : State} (htxs : u.txs = s.txs ++ stuff a c p)
    (hresp : u.session.resp = callerBuffer 0 buf) (hv : Rejected e u v) :
    Undecoded a c p buf e s (sessionReturn (.error e) v) := by
  refine ⟨⟨hv.txs.trans htxs, hv.err, rfl, rfl, fun i => ?_⟩, hv.invalid⟩
  rw [← read_callerBuffer_zero, ← hresp, ← hv.resp]
  rfl

/-- A collection that has closed on bytes that do not decode (rules R232, R235). -/
theorem Interleaves.undecodable {all raw : List Byte} {e : ErrorKind} {u : State} (h : Ended raw u)
    (hu : AwaitsReply a c p buf s u) (herror : unstuff raw = .error e) :
    Interleaves all 4 (fun _ => Eq u) (Undecoded a c p buf e s) :=
  .unarmed_succ h.unarmed (answers_turn_poll_of_done hu.todo h.done)
    (.decode_fails (u := sessionGo replyActs.tail u) ⟨h.unarmed, h.done, h.fits, h.content⟩ herror rfl
      fun _ => undecoded_of_rejected hu.txs hu.resp)

/-- A collection that has closed on a wire frame (rules R235 to R238). -/
theorem Interleaves.decodable {all : List Byte} {ra rc : Byte} {rp : List Byte} {u : State} (hrp : rp.length ≤ 255)
    (h : Ended (stuff ra rc rp) u) (hu : AwaitsReply a c p buf s u) :
    Interleaves all (rp.length + 7) (fun _ => Eq u)
      (Exchanged (stuff a c p) .none (replyResult ra rc rp buf) (replyBuffer ra rc rp buf) s) := by
  have hended (acts : List HostAct) : Ended (stuff ra rc rp) (sessionGo acts u) := ⟨h.unarmed, h.done, h.fits, h.content⟩
  have hpoll := answers_turn_poll_of_done hu.todo h.done
  have hread := answers_turn_access_eq (u := sessionGo replyActs.tail u) rfl (answers_regRead (by decide : 7 ≤ 13) _)
  have hdecode := answers_turn_access_eq (u := sessionGo replyActs.tail.tail u) rfl (answers_decode_stuff (hended _) hrp)
  have hcheck := answers_turn_checkDecode_of_none (rest := [.statusTest, .capacityTest])
    (u := sessionGo replyActs.tail.tail.tail (decodeResult ra rc rp (sessionGo replyActs.tail.tail u))) rfl rfl
  refine .unarmed_succ h.unarmed hpoll (.unarmed_succ h.unarmed hread (.unarmed_succ h.unarmed hdecode
    (.unarmed_succ h.unarmed hcheck ?_)))
  exact .tests hrp
    ⟨h.unarmed, rfl, rfl, rfl, readRange_payload_decodeResult ra rc rp _, hu.capacity, hu.resp, hu.txs, rfl⟩ rfl

end

/-- Settles O58: the request goes out while the collection is open; then the closing byte or the deadline, DECODE, and what
follows from its result; or the request does not go out. -/
theorem sessionExchangeRuns : Obligations.SessionExchangeRuns := by
  refine ⟨fun s a c ra rc p rp buf mid post rest hp hrp htodo hwhole hmid hpost hcount hturns hreply hinputs => ?_,
    fun s a c p buf mid rest hs hp htodo hshort hmid hcount hinputs => ?_,
    fun s a c p buf mid post rest b e hp htodo hwhole hmid hpost hcount hturns hcloses herror hinputs => ?_,
    fun s a c p buf mid post rest hp htodo hwhole hmid hpost hcount hturns hopen hinputs => ?_⟩
  · have hcloses := closesOn_stuff hrp hreply
    have hleads : Leads (.call (.sendAndReceive a c p buf) :: .turn :: (mid ++ .rxByte 0x7E#8 :: post)) s
        (Exchanged (stuff a c p) .none (replyResult ra rc rp buf) (replyBuffer ra rc rp buf) s) := by
      refine leads_exchange hp htodo hwhole hmid hcount hcloses.1 fun r w hr hw => ?_
      obtain ⟨r', hcollect, hended, -⟩ := hr.closes hcloses
      rw [hreply] at hended
      exact .step (answers_rxByte hcollect w)
        ((Interleaves.decodable hrp (hended.withRx w) (hw.withRx r')).leads hpost hturns rfl)
    obtain ⟨v, ⟨htxs, herr, htodo', hresult, hresp⟩, log, hrun⟩ :=
      hleads.run (rest := rest) (n := mid.length + post.length + 3) (by simpa using hinputs) (by simp; omega)
    exact ⟨_, hrun, rfl, htxs, htodo', herr, hresult, hresp⟩
  · have hleads : Leads (.call (.sendAndReceive a c p buf) :: mid) s (CutShort a c p buf s) :=
      .step (answers_call htodo hp) (leads_short_write hs hp hshort hmid hcount)
    obtain ⟨v, ⟨⟨htxs, herr, htodo', hresult, hresp⟩, harmed, hdone⟩, log, hrun⟩ := hleads.run (rest := rest) hinputs rfl
    exact ⟨_, hrun, rfl, htxs, harmed, hdone, herr, htodo', hresult, hresp⟩
  · have hleads : Leads (.call (.sendAndReceive a c p buf) :: .turn :: (mid ++ .rxByte b :: post)) s
        (Undecoded a c p buf e s) := by
      refine leads_exchange hp htodo hwhole hmid hcount hcloses.1 fun r w hr hw => ?_
      obtain ⟨r', hcollect, hended, -⟩ := hr.closes hcloses
      exact .step (answers_rxByte hcollect w)
        ((Interleaves.undecodable (hended.withRx w) (hw.withRx r') herror).leads hpost hturns rfl)
    obtain ⟨v, ⟨⟨htxs, herr, htodo', hresult, hresp⟩, hinvalid⟩, log, hrun⟩ :=
      hleads.run (rest := rest) (n := mid.length + post.length + 3) (by simpa using hinputs) (by simp; omega)
    exact ⟨_, hrun, rfl, htxs, herr, hinvalid, htodo', hresult, hresp⟩
  · have hleads : Leads (.call (.sendAndReceive a c p buf) :: .turn :: (mid ++ .deadline :: .turn :: post)) s
        (Undecoded a c p buf .frameError s) := by
      refine leads_exchange hp htodo hwhole hmid hcount hopen fun r w hr hw => ?_
      have hended := hr.ended_stopped hopen
      have hdecode : Interleaves (receivedBytes post) 3 (fun _ => Eq (sessionGo replyActs.tail (stopped (sessionGo
          (.access (command 0x00#8 0x05#8) :: replyActs.tail) (withRx (gathered (receivedBytes mid) r) w)))))
          (Undecoded a c p buf .frameError s) :=
        .decode_fails ⟨rfl, rfl, hended.fits, hended.content⟩ (unstuff_of_staysOpen hopen) rfl
          fun _ => undecoded_of_rejected hw.txs hw.resp
      exact .step (answers_deadline (u := withRx (gathered (receivedBytes mid) r) w) hw.todo)
        (.step (answers_turn_access_eq rfl (answers_rxstop hr.armed)) (hdecode.leads hpost hturns rfl))
    obtain ⟨v, ⟨⟨htxs, herr, htodo', hresult, hresp⟩, hinvalid⟩, log, hrun⟩ :=
      hleads.run (rest := rest) (n := mid.length + post.length + 4) (by simpa using hinputs) (by simp; omega)
    exact ⟨_, hrun, rfl, htxs, herr, hinvalid, htodo', hresult, hresp⟩

end Sys2Proof.Machine
end

section
/-! ## NOP and RESET (rules R250, R251)

The opcode alone selects either, whatever imm8 is (rule R112). -/

namespace Sys2Proof.Machine

theorem exec_nop (s : State) : exec .nop s = .next s := rfl

/-- RESET and the reset line do the same to every element of the block but TXS (rule R251). -/
theorem exec_reset (s : State) : exec .reset s = .next { hardwareReset s with txs := s.txs } := rfl

/-- Settles O10: the opcode selects NOP, which runs no statement. -/
theorem nopChangesNothing : Obligations.NopChangesNothing :=
  ⟨fun _ h => decodeCmd_of_opcode h (by decide), exec_nop⟩

/-- Settles O2: the opcode selects RESET, which is the hardware reset with TXS as it was; the elements of the hardware reset
are those of the reset state. -/
theorem resetCommandKeepsTxs : Obligations.ResetCommandKeepsTxs :=
  ⟨fun _ h => decodeCmd_of_opcode h (by decide), exec_reset⟩

end Sys2Proof.Machine
end

section
/-! ## The state after hardware reset (rules R45, R290, R291) -/

namespace Sys2Proof.Machine

/-- One value for the thirteen registers before CSOUT, at each one's width; CSOUT is the complement of CSACC (rule R20). -/
theorem regValue_reset : ∀ n ≤ 12, regValue n State.reset = some (if regIsWide n then .half 0 else .byte 0) := by decide

theorem read_reset_mem (sp : Space) (i : Nat) : Memory.read (State.reset.mem sp) i = none := by
  cases sp <;> exact Memory.read_nil i

/-- The next event is the reset line: the step is the hardware reset, that event taken off the queue. -/
theorem step_of_hardReset {s : State} {rest : List Input} (h : s.inputs = .hardReset :: rest) :
    step s = .next (hardwareReset { s with inputs := rest }) :=
  step_of_inputs_cons h

/-- Settles O1: the registers and the buffers of the reset state, its remaining elements as they stand there, and the
hardware reset that serving the line is. -/
theorem resetGivesEveryElementItsValue : Obligations.ResetGivesEveryElementItsValue := by
  refine ⟨fun n _ hn hwide => ?_, fun n hn hwide => ?_, rfl, read_reset_mem, rfl, inv_reset.codecIdle, rfl, rfl, rfl, rfl,
    fun _ _ hline => step_of_hardReset hline⟩
  · rw [regValue_reset n hn, hwide]
    rfl
  · rw [regValue_reset n hn, hwide]
    rfl

end Sys2Proof.Machine
end
